-- ==== Sys2Proof/Word.lean ====
section
/-! DEFINITION. The two word types of the core: the 8-bit byte and the 16-bit word (00_scope.md R7, R10). -/

namespace Sys2Proof

/-- A u8: a data register, the addressable unit of memory, an immediate byte (R7). -/
abbrev Byte := BitVec 8

/-- A u16: a register pair, SP, PC, an address (R7). -/
abbrev Word := BitVec 16

end Sys2Proof
end

