-- ==== Sys2Proof/Syntax.lean ====
section
/-! DEFINITION. The instruction set as data: the operand names of 30_encoding.md R82, the ONE inductive `Instr` with one
constructor for each of the 512 rows of spec/opcode_table.json, and the instruction families as functions into it. -/

namespace Sys2Proof

/-- The seven general 8-bit registers (10_state.md R20). F is no operand of its own. -/
inductive Reg8 where
  | A | B | C | D | E | H | L
  deriving DecidableEq, Repr

/-- The r8 index of R82 (index 6 is the operand (HL)). -/
def Reg8.code : Reg8 → Nat
  | .B => 0 | .C => 1 | .D => 2 | .E => 3 | .H => 4 | .L => 5 | .A => 7

/-- rp of R82: the 16-bit operands of LD rr,d16, ADD HL,rr, INC rr and DEC rr. -/
inductive Pair where
  | BC | DE | HL | SP
  deriving DecidableEq, Repr

/-- The rp index of R82. -/
def Pair.code : Pair → Nat
  | .BC => 0 | .DE => 1 | .HL => 2 | .SP => 3

/-- rp2 of R82: the operands of PUSH and POP. -/
inductive StackPair where
  | BC | DE | HL | AF
  deriving DecidableEq, Repr

/-- The rp2 index of R82. -/
def StackPair.code : StackPair → Nat
  | .BC => 0 | .DE => 1 | .HL => 2 | .AF => 3

/-- The four conditions of R82 and 46_control_flow.md R270. -/
inductive Cond where
  | NZ | Z | NC | C
  deriving DecidableEq, Repr

/-- The cc index of R82. -/
def Cond.code : Cond → Nat
  | .NZ => 0 | .Z => 1 | .NC => 2 | .C => 3

/-- alu of R82. -/
inductive AluOp where
  | add | adc | sub | sbc | and | xor | or | cp
  deriving DecidableEq, Repr

/-- The alu index of R82. -/
def AluOp.code : AluOp → Nat
  | .add => 0 | .adc => 1 | .sub => 2 | .sbc => 3 | .and => 4 | .xor => 5 | .or => 6 | .cp => 7

/-- rot of R82 (the CB table's rows with x = 0). -/
inductive RotOp where
  | rlc | rrc | rl | rr | sla | sra | swap | srl
  deriving DecidableEq, Repr

/-- The rot index of R82. -/
def RotOp.code : RotOp → Nat
  | .rlc => 0 | .rrc => 1 | .rl => 2 | .rr => 3 | .sla => 4 | .sra => 5 | .swap => 6 | .srl => 7

/-- The field y of R81 where it is a number of its own: the bit index b of BIT, RES and SET, and the RST target t. -/
inductive Index8 where
  | i0 | i1 | i2 | i3 | i4 | i5 | i6 | i7
  deriving DecidableEq, Repr

/-- The number an index stands for. -/
def Index8.toNat : Index8 → Nat
  | .i0 => 0 | .i1 => 1 | .i2 => 2 | .i3 => 3 | .i4 => 4 | .i5 => 5 | .i6 => 6 | .i7 => 7

/-- r8 of R82: an operand that is read and written back, a register or the byte at HL. -/
inductive Target8 where
  | reg (r : Reg8)
  | atHL
  deriving DecidableEq, Repr

/-- The r8 index of R82. -/
def Target8.code : Target8 → Nat
  | .reg r => r.code
  | .atHL  => 6

/-- The three forms of the second operand of an 8-bit ALU instruction (43_alu_8bit.md R174). -/
inductive AluSource where
  | reg (r : Reg8)
  | atHL
  | imm (n : Byte)
  deriving DecidableEq, Repr

/-- The instructions: one constructor for each row of spec/opcode_table.json. Those whose bytes hold an operand come first (a
compiled constructor with an argument must have a small index), then the others, each group in the table's order. An
operand that the instruction's own bytes hold is an argument; `at` in a name stands for the parentheses of the table's spelling.
`prefix_CB` is the table's row for the prefix byte itself, which R295 calls no instruction of its own; the eleven
`invalid_..` are the unassigned primary opcodes (R87). -/
inductive Instr where
  | ld_BC_d16 (nn : Word)
  | ld_B_d8 (n : Byte)
  | ld_atA16_SP (addr : Word)
  | ld_C_d8 (n : Byte)
  | stop (n : Byte)
  | ld_DE_d16 (nn : Word)
  | ld_D_d8 (n : Byte)
  | jr_r8 (e : Byte)
  | ld_E_d8 (n : Byte)
  | jr_NZ_r8 (e : Byte)
  | ld_HL_d16 (nn : Word)
  | ld_H_d8 (n : Byte)
  | jr_Z_r8 (e : Byte)
  | ld_L_d8 (n : Byte)
  | jr_NC_r8 (e : Byte)
  | ld_SP_d16 (nn : Word)
  | ld_atHL_d8 (n : Byte)
  | jr_C_r8 (e : Byte)
  | ld_A_d8 (n : Byte)
  | jp_NZ_a16 (addr : Word)
  | jp_a16 (addr : Word)
  | call_NZ_a16 (addr : Word)
  | add_A_d8 (n : Byte)
  | jp_Z_a16 (addr : Word)
  | call_Z_a16 (addr : Word)
  | call_a16 (addr : Word)
  | adc_A_d8 (n : Byte)
  | jp_NC_a16 (addr : Word)
  | call_NC_a16 (addr : Word)
  | sub_d8 (n : Byte)
  | jp_C_a16 (addr : Word)
  | call_C_a16 (addr : Word)
  | sbc_A_d8 (n : Byte)
  | ldh_atA8_A (n : Byte)
  | and_d8 (n : Byte)
  | add_SP_r8 (e : Byte)
  | ld_atA16_A (addr : Word)
  | xor_d8 (n : Byte)
  | ldh_A_atA8 (n : Byte)
  | or_d8 (n : Byte)
  | ld_HL_SPr8 (e : Byte)
  | ld_A_atA16 (addr : Word)
  | cp_d8 (n : Byte)
  | nop
  | ld_atBC_A
  | inc_BC
  | inc_B
  | dec_B
  | rlca
  | add_HL_BC
  | ld_A_atBC
  | dec_BC
  | inc_C
  | dec_C
  | rrca
  | ld_atDE_A
  | inc_DE
  | inc_D
  | dec_D
  | rla
  | add_HL_DE
  | ld_A_atDE
  | dec_DE
  | inc_E
  | dec_E
  | rra
  | ld_atHLinc_A
  | inc_HL
  | inc_H
  | dec_H
  | daa
  | add_HL_HL
  | ld_A_atHLinc
  | dec_HL
  | inc_L
  | dec_L
  | cpl
  | ld_atHLdec_A
  | inc_SP
  | inc_atHL
  | dec_atHL
  | scf
  | add_HL_SP
  | ld_A_atHLdec
  | dec_SP
  | inc_A
  | dec_A
  | ccf
  | ld_B_B
  | ld_B_C
  | ld_B_D
  | ld_B_E
  | ld_B_H
  | ld_B_L
  | ld_B_atHL
  | ld_B_A
  | ld_C_B
  | ld_C_C
  | ld_C_D
  | ld_C_E
  | ld_C_H
  | ld_C_L
  | ld_C_atHL
  | ld_C_A
  | ld_D_B
  | ld_D_C
  | ld_D_D
  | ld_D_E
  | ld_D_H
  | ld_D_L
  | ld_D_atHL
  | ld_D_A
  | ld_E_B
  | ld_E_C
  | ld_E_D
  | ld_E_E
  | ld_E_H
  | ld_E_L
  | ld_E_atHL
  | ld_E_A
  | ld_H_B
  | ld_H_C
  | ld_H_D
  | ld_H_E
  | ld_H_H
  | ld_H_L
  | ld_H_atHL
  | ld_H_A
  | ld_L_B
  | ld_L_C
  | ld_L_D
  | ld_L_E
  | ld_L_H
  | ld_L_L
  | ld_L_atHL
  | ld_L_A
  | ld_atHL_B
  | ld_atHL_C
  | ld_atHL_D
  | ld_atHL_E
  | ld_atHL_H
  | ld_atHL_L
  | halt
  | ld_atHL_A
  | ld_A_B
  | ld_A_C
  | ld_A_D
  | ld_A_E
  | ld_A_H
  | ld_A_L
  | ld_A_atHL
  | ld_A_A
  | add_A_B
  | add_A_C
  | add_A_D
  | add_A_E
  | add_A_H
  | add_A_L
  | add_A_atHL
  | add_A_A
  | adc_A_B
  | adc_A_C
  | adc_A_D
  | adc_A_E
  | adc_A_H
  | adc_A_L
  | adc_A_atHL
  | adc_A_A
  | sub_B
  | sub_C
  | sub_D
  | sub_E
  | sub_H
  | sub_L
  | sub_atHL
  | sub_A
  | sbc_A_B
  | sbc_A_C
  | sbc_A_D
  | sbc_A_E
  | sbc_A_H
  | sbc_A_L
  | sbc_A_atHL
  | sbc_A_A
  | and_B
  | and_C
  | and_D
  | and_E
  | and_H
  | and_L
  | and_atHL
  | and_A
  | xor_B
  | xor_C
  | xor_D
  | xor_E
  | xor_H
  | xor_L
  | xor_atHL
  | xor_A
  | or_B
  | or_C
  | or_D
  | or_E
  | or_H
  | or_L
  | or_atHL
  | or_A
  | cp_B
  | cp_C
  | cp_D
  | cp_E
  | cp_H
  | cp_L
  | cp_atHL
  | cp_A
  | ret_NZ
  | pop_BC
  | push_BC
  | rst_00H
  | ret_Z
  | ret
  | prefix_CB
  | rst_08H
  | ret_NC
  | pop_DE
  | invalid_D3
  | push_DE
  | rst_10H
  | ret_C
  | reti
  | invalid_DB
  | invalid_DD
  | rst_18H
  | pop_HL
  | ld_atC_A
  | invalid_E3
  | invalid_E4
  | push_HL
  | rst_20H
  | jp_HL
  | invalid_EB
  | invalid_EC
  | invalid_ED
  | rst_28H
  | pop_AF
  | ld_A_atC
  | di
  | invalid_F4
  | push_AF
  | rst_30H
  | ld_SP_HL
  | ei
  | invalid_FC
  | invalid_FD
  | rst_38H
  | rlc_B
  | rlc_C
  | rlc_D
  | rlc_E
  | rlc_H
  | rlc_L
  | rlc_atHL
  | rlc_A
  | rrc_B
  | rrc_C
  | rrc_D
  | rrc_E
  | rrc_H
  | rrc_L
  | rrc_atHL
  | rrc_A
  | rl_B
  | rl_C
  | rl_D
  | rl_E
  | rl_H
  | rl_L
  | rl_atHL
  | rl_A
  | rr_B
  | rr_C
  | rr_D
  | rr_E
  | rr_H
  | rr_L
  | rr_atHL
  | rr_A
  | sla_B
  | sla_C
  | sla_D
  | sla_E
  | sla_H
  | sla_L
  | sla_atHL
  | sla_A
  | sra_B
  | sra_C
  | sra_D
  | sra_E
  | sra_H
  | sra_L
  | sra_atHL
  | sra_A
  | swap_B
  | swap_C
  | swap_D
  | swap_E
  | swap_H
  | swap_L
  | swap_atHL
  | swap_A
  | srl_B
  | srl_C
  | srl_D
  | srl_E
  | srl_H
  | srl_L
  | srl_atHL
  | srl_A
  | bit_0_B
  | bit_0_C
  | bit_0_D
  | bit_0_E
  | bit_0_H
  | bit_0_L
  | bit_0_atHL
  | bit_0_A
  | bit_1_B
  | bit_1_C
  | bit_1_D
  | bit_1_E
  | bit_1_H
  | bit_1_L
  | bit_1_atHL
  | bit_1_A
  | bit_2_B
  | bit_2_C
  | bit_2_D
  | bit_2_E
  | bit_2_H
  | bit_2_L
  | bit_2_atHL
  | bit_2_A
  | bit_3_B
  | bit_3_C
  | bit_3_D
  | bit_3_E
  | bit_3_H
  | bit_3_L
  | bit_3_atHL
  | bit_3_A
  | bit_4_B
  | bit_4_C
  | bit_4_D
  | bit_4_E
  | bit_4_H
  | bit_4_L
  | bit_4_atHL
  | bit_4_A
  | bit_5_B
  | bit_5_C
  | bit_5_D
  | bit_5_E
  | bit_5_H
  | bit_5_L
  | bit_5_atHL
  | bit_5_A
  | bit_6_B
  | bit_6_C
  | bit_6_D
  | bit_6_E
  | bit_6_H
  | bit_6_L
  | bit_6_atHL
  | bit_6_A
  | bit_7_B
  | bit_7_C
  | bit_7_D
  | bit_7_E
  | bit_7_H
  | bit_7_L
  | bit_7_atHL
  | bit_7_A
  | res_0_B
  | res_0_C
  | res_0_D
  | res_0_E
  | res_0_H
  | res_0_L
  | res_0_atHL
  | res_0_A
  | res_1_B
  | res_1_C
  | res_1_D
  | res_1_E
  | res_1_H
  | res_1_L
  | res_1_atHL
  | res_1_A
  | res_2_B
  | res_2_C
  | res_2_D
  | res_2_E
  | res_2_H
  | res_2_L
  | res_2_atHL
  | res_2_A
  | res_3_B
  | res_3_C
  | res_3_D
  | res_3_E
  | res_3_H
  | res_3_L
  | res_3_atHL
  | res_3_A
  | res_4_B
  | res_4_C
  | res_4_D
  | res_4_E
  | res_4_H
  | res_4_L
  | res_4_atHL
  | res_4_A
  | res_5_B
  | res_5_C
  | res_5_D
  | res_5_E
  | res_5_H
  | res_5_L
  | res_5_atHL
  | res_5_A
  | res_6_B
  | res_6_C
  | res_6_D
  | res_6_E
  | res_6_H
  | res_6_L
  | res_6_atHL
  | res_6_A
  | res_7_B
  | res_7_C
  | res_7_D
  | res_7_E
  | res_7_H
  | res_7_L
  | res_7_atHL
  | res_7_A
  | set_0_B
  | set_0_C
  | set_0_D
  | set_0_E
  | set_0_H
  | set_0_L
  | set_0_atHL
  | set_0_A
  | set_1_B
  | set_1_C
  | set_1_D
  | set_1_E
  | set_1_H
  | set_1_L
  | set_1_atHL
  | set_1_A
  | set_2_B
  | set_2_C
  | set_2_D
  | set_2_E
  | set_2_H
  | set_2_L
  | set_2_atHL
  | set_2_A
  | set_3_B
  | set_3_C
  | set_3_D
  | set_3_E
  | set_3_H
  | set_3_L
  | set_3_atHL
  | set_3_A
  | set_4_B
  | set_4_C
  | set_4_D
  | set_4_E
  | set_4_H
  | set_4_L
  | set_4_atHL
  | set_4_A
  | set_5_B
  | set_5_C
  | set_5_D
  | set_5_E
  | set_5_H
  | set_5_L
  | set_5_atHL
  | set_5_A
  | set_6_B
  | set_6_C
  | set_6_D
  | set_6_E
  | set_6_H
  | set_6_L
  | set_6_atHL
  | set_6_A
  | set_7_B
  | set_7_C
  | set_7_D
  | set_7_E
  | set_7_H
  | set_7_L
  | set_7_atHL
  | set_7_A
  deriving DecidableEq, Repr

/-! The families of files 41 to 47. Each function names the constructors of one shape; statements quantify over its
arguments. -/

/-- LD r,r' (R120). -/
def Instr.ldRegReg : Reg8 → Reg8 → Instr
  | .B, .B => .ld_B_B
  | .B, .C => .ld_B_C
  | .B, .D => .ld_B_D
  | .B, .E => .ld_B_E
  | .B, .H => .ld_B_H
  | .B, .L => .ld_B_L
  | .B, .A => .ld_B_A
  | .C, .B => .ld_C_B
  | .C, .C => .ld_C_C
  | .C, .D => .ld_C_D
  | .C, .E => .ld_C_E
  | .C, .H => .ld_C_H
  | .C, .L => .ld_C_L
  | .C, .A => .ld_C_A
  | .D, .B => .ld_D_B
  | .D, .C => .ld_D_C
  | .D, .D => .ld_D_D
  | .D, .E => .ld_D_E
  | .D, .H => .ld_D_H
  | .D, .L => .ld_D_L
  | .D, .A => .ld_D_A
  | .E, .B => .ld_E_B
  | .E, .C => .ld_E_C
  | .E, .D => .ld_E_D
  | .E, .E => .ld_E_E
  | .E, .H => .ld_E_H
  | .E, .L => .ld_E_L
  | .E, .A => .ld_E_A
  | .H, .B => .ld_H_B
  | .H, .C => .ld_H_C
  | .H, .D => .ld_H_D
  | .H, .E => .ld_H_E
  | .H, .H => .ld_H_H
  | .H, .L => .ld_H_L
  | .H, .A => .ld_H_A
  | .L, .B => .ld_L_B
  | .L, .C => .ld_L_C
  | .L, .D => .ld_L_D
  | .L, .E => .ld_L_E
  | .L, .H => .ld_L_H
  | .L, .L => .ld_L_L
  | .L, .A => .ld_L_A
  | .A, .B => .ld_A_B
  | .A, .C => .ld_A_C
  | .A, .D => .ld_A_D
  | .A, .E => .ld_A_E
  | .A, .H => .ld_A_H
  | .A, .L => .ld_A_L
  | .A, .A => .ld_A_A

/-- LD r,d8 (R121). -/
def Instr.ldRegImm : Reg8 → Byte → Instr
  | .B, n => .ld_B_d8 n
  | .C, n => .ld_C_d8 n
  | .D, n => .ld_D_d8 n
  | .E, n => .ld_E_d8 n
  | .H, n => .ld_H_d8 n
  | .L, n => .ld_L_d8 n
  | .A, n => .ld_A_d8 n

/-- LD r,(HL) (R122). -/
def Instr.ldRegAtHL : Reg8 → Instr
  | .B => .ld_B_atHL
  | .C => .ld_C_atHL
  | .D => .ld_D_atHL
  | .E => .ld_E_atHL
  | .H => .ld_H_atHL
  | .L => .ld_L_atHL
  | .A => .ld_A_atHL

/-- LD (HL),r (R123). -/
def Instr.ldAtHLReg : Reg8 → Instr
  | .B => .ld_atHL_B
  | .C => .ld_atHL_C
  | .D => .ld_atHL_D
  | .E => .ld_atHL_E
  | .H => .ld_atHL_H
  | .L => .ld_atHL_L
  | .A => .ld_atHL_A

/-- LD rr,d16 (R150). -/
def Instr.ldPairImm : Pair → Word → Instr
  | .BC, nn => .ld_BC_d16 nn
  | .DE, nn => .ld_DE_d16 nn
  | .HL, nn => .ld_HL_d16 nn
  | .SP, nn => .ld_SP_d16 nn

/-- PUSH rr (R154). -/
def Instr.push : StackPair → Instr
  | .BC => .push_BC
  | .DE => .push_DE
  | .HL => .push_HL
  | .AF => .push_AF

/-- POP rr (R155, R156). -/
def Instr.pop : StackPair → Instr
  | .BC => .pop_BC
  | .DE => .pop_DE
  | .HL => .pop_HL
  | .AF => .pop_AF

/-- The 8-bit ALU instructions (R175 to R198). -/
def Instr.alu : AluOp → AluSource → Instr
  | .add, .reg .B => .add_A_B
  | .add, .reg .C => .add_A_C
  | .add, .reg .D => .add_A_D
  | .add, .reg .E => .add_A_E
  | .add, .reg .H => .add_A_H
  | .add, .reg .L => .add_A_L
  | .add, .reg .A => .add_A_A
  | .adc, .reg .B => .adc_A_B
  | .adc, .reg .C => .adc_A_C
  | .adc, .reg .D => .adc_A_D
  | .adc, .reg .E => .adc_A_E
  | .adc, .reg .H => .adc_A_H
  | .adc, .reg .L => .adc_A_L
  | .adc, .reg .A => .adc_A_A
  | .sub, .reg .B => .sub_B
  | .sub, .reg .C => .sub_C
  | .sub, .reg .D => .sub_D
  | .sub, .reg .E => .sub_E
  | .sub, .reg .H => .sub_H
  | .sub, .reg .L => .sub_L
  | .sub, .reg .A => .sub_A
  | .sbc, .reg .B => .sbc_A_B
  | .sbc, .reg .C => .sbc_A_C
  | .sbc, .reg .D => .sbc_A_D
  | .sbc, .reg .E => .sbc_A_E
  | .sbc, .reg .H => .sbc_A_H
  | .sbc, .reg .L => .sbc_A_L
  | .sbc, .reg .A => .sbc_A_A
  | .and, .reg .B => .and_B
  | .and, .reg .C => .and_C
  | .and, .reg .D => .and_D
  | .and, .reg .E => .and_E
  | .and, .reg .H => .and_H
  | .and, .reg .L => .and_L
  | .and, .reg .A => .and_A
  | .xor, .reg .B => .xor_B
  | .xor, .reg .C => .xor_C
  | .xor, .reg .D => .xor_D
  | .xor, .reg .E => .xor_E
  | .xor, .reg .H => .xor_H
  | .xor, .reg .L => .xor_L
  | .xor, .reg .A => .xor_A
  | .or, .reg .B => .or_B
  | .or, .reg .C => .or_C
  | .or, .reg .D => .or_D
  | .or, .reg .E => .or_E
  | .or, .reg .H => .or_H
  | .or, .reg .L => .or_L
  | .or, .reg .A => .or_A
  | .cp, .reg .B => .cp_B
  | .cp, .reg .C => .cp_C
  | .cp, .reg .D => .cp_D
  | .cp, .reg .E => .cp_E
  | .cp, .reg .H => .cp_H
  | .cp, .reg .L => .cp_L
  | .cp, .reg .A => .cp_A
  | .add, .atHL => .add_A_atHL
  | .adc, .atHL => .adc_A_atHL
  | .sub, .atHL => .sub_atHL
  | .sbc, .atHL => .sbc_A_atHL
  | .and, .atHL => .and_atHL
  | .xor, .atHL => .xor_atHL
  | .or, .atHL => .or_atHL
  | .cp, .atHL => .cp_atHL
  | .add, .imm n => .add_A_d8 n
  | .adc, .imm n => .adc_A_d8 n
  | .sub, .imm n => .sub_d8 n
  | .sbc, .imm n => .sbc_A_d8 n
  | .and, .imm n => .and_d8 n
  | .xor, .imm n => .xor_d8 n
  | .or, .imm n => .or_d8 n
  | .cp, .imm n => .cp_d8 n

/-- INC r and INC (HL) (R199, R200). -/
def Instr.inc8 : Target8 → Instr
  | .reg .B => .inc_B
  | .reg .C => .inc_C
  | .reg .D => .inc_D
  | .reg .E => .inc_E
  | .reg .H => .inc_H
  | .reg .L => .inc_L
  | .atHL => .inc_atHL
  | .reg .A => .inc_A

/-- DEC r and DEC (HL) (R201, R202). -/
def Instr.dec8 : Target8 → Instr
  | .reg .B => .dec_B
  | .reg .C => .dec_C
  | .reg .D => .dec_D
  | .reg .E => .dec_E
  | .reg .H => .dec_H
  | .reg .L => .dec_L
  | .atHL => .dec_atHL
  | .reg .A => .dec_A

/-- ADD HL,rr (R220). -/
def Instr.addHL : Pair → Instr
  | .BC => .add_HL_BC
  | .DE => .add_HL_DE
  | .HL => .add_HL_HL
  | .SP => .add_HL_SP

/-- INC rr (R221). -/
def Instr.incPair : Pair → Instr
  | .BC => .inc_BC
  | .DE => .inc_DE
  | .HL => .inc_HL
  | .SP => .inc_SP

/-- DEC rr (R222). -/
def Instr.decPair : Pair → Instr
  | .BC => .dec_BC
  | .DE => .dec_DE
  | .HL => .dec_HL
  | .SP => .dec_SP

/-- The CB-prefixed rotates and shifts (R236 to R251). -/
def Instr.rot : RotOp → Target8 → Instr
  | .rlc, .reg .B => .rlc_B
  | .rlc, .reg .C => .rlc_C
  | .rlc, .reg .D => .rlc_D
  | .rlc, .reg .E => .rlc_E
  | .rlc, .reg .H => .rlc_H
  | .rlc, .reg .L => .rlc_L
  | .rlc, .atHL => .rlc_atHL
  | .rlc, .reg .A => .rlc_A
  | .rrc, .reg .B => .rrc_B
  | .rrc, .reg .C => .rrc_C
  | .rrc, .reg .D => .rrc_D
  | .rrc, .reg .E => .rrc_E
  | .rrc, .reg .H => .rrc_H
  | .rrc, .reg .L => .rrc_L
  | .rrc, .atHL => .rrc_atHL
  | .rrc, .reg .A => .rrc_A
  | .rl, .reg .B => .rl_B
  | .rl, .reg .C => .rl_C
  | .rl, .reg .D => .rl_D
  | .rl, .reg .E => .rl_E
  | .rl, .reg .H => .rl_H
  | .rl, .reg .L => .rl_L
  | .rl, .atHL => .rl_atHL
  | .rl, .reg .A => .rl_A
  | .rr, .reg .B => .rr_B
  | .rr, .reg .C => .rr_C
  | .rr, .reg .D => .rr_D
  | .rr, .reg .E => .rr_E
  | .rr, .reg .H => .rr_H
  | .rr, .reg .L => .rr_L
  | .rr, .atHL => .rr_atHL
  | .rr, .reg .A => .rr_A
  | .sla, .reg .B => .sla_B
  | .sla, .reg .C => .sla_C
  | .sla, .reg .D => .sla_D
  | .sla, .reg .E => .sla_E
  | .sla, .reg .H => .sla_H
  | .sla, .reg .L => .sla_L
  | .sla, .atHL => .sla_atHL
  | .sla, .reg .A => .sla_A
  | .sra, .reg .B => .sra_B
  | .sra, .reg .C => .sra_C
  | .sra, .reg .D => .sra_D
  | .sra, .reg .E => .sra_E
  | .sra, .reg .H => .sra_H
  | .sra, .reg .L => .sra_L
  | .sra, .atHL => .sra_atHL
  | .sra, .reg .A => .sra_A
  | .swap, .reg .B => .swap_B
  | .swap, .reg .C => .swap_C
  | .swap, .reg .D => .swap_D
  | .swap, .reg .E => .swap_E
  | .swap, .reg .H => .swap_H
  | .swap, .reg .L => .swap_L
  | .swap, .atHL => .swap_atHL
  | .swap, .reg .A => .swap_A
  | .srl, .reg .B => .srl_B
  | .srl, .reg .C => .srl_C
  | .srl, .reg .D => .srl_D
  | .srl, .reg .E => .srl_E
  | .srl, .reg .H => .srl_H
  | .srl, .reg .L => .srl_L
  | .srl, .atHL => .srl_atHL
  | .srl, .reg .A => .srl_A

/-- BIT b,r and BIT b,(HL) (R252, R253). -/
def Instr.bit : Index8 → Target8 → Instr
  | .i0, .reg .B => .bit_0_B
  | .i0, .reg .C => .bit_0_C
  | .i0, .reg .D => .bit_0_D
  | .i0, .reg .E => .bit_0_E
  | .i0, .reg .H => .bit_0_H
  | .i0, .reg .L => .bit_0_L
  | .i0, .atHL => .bit_0_atHL
  | .i0, .reg .A => .bit_0_A
  | .i1, .reg .B => .bit_1_B
  | .i1, .reg .C => .bit_1_C
  | .i1, .reg .D => .bit_1_D
  | .i1, .reg .E => .bit_1_E
  | .i1, .reg .H => .bit_1_H
  | .i1, .reg .L => .bit_1_L
  | .i1, .atHL => .bit_1_atHL
  | .i1, .reg .A => .bit_1_A
  | .i2, .reg .B => .bit_2_B
  | .i2, .reg .C => .bit_2_C
  | .i2, .reg .D => .bit_2_D
  | .i2, .reg .E => .bit_2_E
  | .i2, .reg .H => .bit_2_H
  | .i2, .reg .L => .bit_2_L
  | .i2, .atHL => .bit_2_atHL
  | .i2, .reg .A => .bit_2_A
  | .i3, .reg .B => .bit_3_B
  | .i3, .reg .C => .bit_3_C
  | .i3, .reg .D => .bit_3_D
  | .i3, .reg .E => .bit_3_E
  | .i3, .reg .H => .bit_3_H
  | .i3, .reg .L => .bit_3_L
  | .i3, .atHL => .bit_3_atHL
  | .i3, .reg .A => .bit_3_A
  | .i4, .reg .B => .bit_4_B
  | .i4, .reg .C => .bit_4_C
  | .i4, .reg .D => .bit_4_D
  | .i4, .reg .E => .bit_4_E
  | .i4, .reg .H => .bit_4_H
  | .i4, .reg .L => .bit_4_L
  | .i4, .atHL => .bit_4_atHL
  | .i4, .reg .A => .bit_4_A
  | .i5, .reg .B => .bit_5_B
  | .i5, .reg .C => .bit_5_C
  | .i5, .reg .D => .bit_5_D
  | .i5, .reg .E => .bit_5_E
  | .i5, .reg .H => .bit_5_H
  | .i5, .reg .L => .bit_5_L
  | .i5, .atHL => .bit_5_atHL
  | .i5, .reg .A => .bit_5_A
  | .i6, .reg .B => .bit_6_B
  | .i6, .reg .C => .bit_6_C
  | .i6, .reg .D => .bit_6_D
  | .i6, .reg .E => .bit_6_E
  | .i6, .reg .H => .bit_6_H
  | .i6, .reg .L => .bit_6_L
  | .i6, .atHL => .bit_6_atHL
  | .i6, .reg .A => .bit_6_A
  | .i7, .reg .B => .bit_7_B
  | .i7, .reg .C => .bit_7_C
  | .i7, .reg .D => .bit_7_D
  | .i7, .reg .E => .bit_7_E
  | .i7, .reg .H => .bit_7_H
  | .i7, .reg .L => .bit_7_L
  | .i7, .atHL => .bit_7_atHL
  | .i7, .reg .A => .bit_7_A

/-- RES b,r and RES b,(HL) (R254, R255). -/
def Instr.res : Index8 → Target8 → Instr
  | .i0, .reg .B => .res_0_B
  | .i0, .reg .C => .res_0_C
  | .i0, .reg .D => .res_0_D
  | .i0, .reg .E => .res_0_E
  | .i0, .reg .H => .res_0_H
  | .i0, .reg .L => .res_0_L
  | .i0, .atHL => .res_0_atHL
  | .i0, .reg .A => .res_0_A
  | .i1, .reg .B => .res_1_B
  | .i1, .reg .C => .res_1_C
  | .i1, .reg .D => .res_1_D
  | .i1, .reg .E => .res_1_E
  | .i1, .reg .H => .res_1_H
  | .i1, .reg .L => .res_1_L
  | .i1, .atHL => .res_1_atHL
  | .i1, .reg .A => .res_1_A
  | .i2, .reg .B => .res_2_B
  | .i2, .reg .C => .res_2_C
  | .i2, .reg .D => .res_2_D
  | .i2, .reg .E => .res_2_E
  | .i2, .reg .H => .res_2_H
  | .i2, .reg .L => .res_2_L
  | .i2, .atHL => .res_2_atHL
  | .i2, .reg .A => .res_2_A
  | .i3, .reg .B => .res_3_B
  | .i3, .reg .C => .res_3_C
  | .i3, .reg .D => .res_3_D
  | .i3, .reg .E => .res_3_E
  | .i3, .reg .H => .res_3_H
  | .i3, .reg .L => .res_3_L
  | .i3, .atHL => .res_3_atHL
  | .i3, .reg .A => .res_3_A
  | .i4, .reg .B => .res_4_B
  | .i4, .reg .C => .res_4_C
  | .i4, .reg .D => .res_4_D
  | .i4, .reg .E => .res_4_E
  | .i4, .reg .H => .res_4_H
  | .i4, .reg .L => .res_4_L
  | .i4, .atHL => .res_4_atHL
  | .i4, .reg .A => .res_4_A
  | .i5, .reg .B => .res_5_B
  | .i5, .reg .C => .res_5_C
  | .i5, .reg .D => .res_5_D
  | .i5, .reg .E => .res_5_E
  | .i5, .reg .H => .res_5_H
  | .i5, .reg .L => .res_5_L
  | .i5, .atHL => .res_5_atHL
  | .i5, .reg .A => .res_5_A
  | .i6, .reg .B => .res_6_B
  | .i6, .reg .C => .res_6_C
  | .i6, .reg .D => .res_6_D
  | .i6, .reg .E => .res_6_E
  | .i6, .reg .H => .res_6_H
  | .i6, .reg .L => .res_6_L
  | .i6, .atHL => .res_6_atHL
  | .i6, .reg .A => .res_6_A
  | .i7, .reg .B => .res_7_B
  | .i7, .reg .C => .res_7_C
  | .i7, .reg .D => .res_7_D
  | .i7, .reg .E => .res_7_E
  | .i7, .reg .H => .res_7_H
  | .i7, .reg .L => .res_7_L
  | .i7, .atHL => .res_7_atHL
  | .i7, .reg .A => .res_7_A

/-- SET b,r and SET b,(HL) (R256, R257). -/
def Instr.set : Index8 → Target8 → Instr
  | .i0, .reg .B => .set_0_B
  | .i0, .reg .C => .set_0_C
  | .i0, .reg .D => .set_0_D
  | .i0, .reg .E => .set_0_E
  | .i0, .reg .H => .set_0_H
  | .i0, .reg .L => .set_0_L
  | .i0, .atHL => .set_0_atHL
  | .i0, .reg .A => .set_0_A
  | .i1, .reg .B => .set_1_B
  | .i1, .reg .C => .set_1_C
  | .i1, .reg .D => .set_1_D
  | .i1, .reg .E => .set_1_E
  | .i1, .reg .H => .set_1_H
  | .i1, .reg .L => .set_1_L
  | .i1, .atHL => .set_1_atHL
  | .i1, .reg .A => .set_1_A
  | .i2, .reg .B => .set_2_B
  | .i2, .reg .C => .set_2_C
  | .i2, .reg .D => .set_2_D
  | .i2, .reg .E => .set_2_E
  | .i2, .reg .H => .set_2_H
  | .i2, .reg .L => .set_2_L
  | .i2, .atHL => .set_2_atHL
  | .i2, .reg .A => .set_2_A
  | .i3, .reg .B => .set_3_B
  | .i3, .reg .C => .set_3_C
  | .i3, .reg .D => .set_3_D
  | .i3, .reg .E => .set_3_E
  | .i3, .reg .H => .set_3_H
  | .i3, .reg .L => .set_3_L
  | .i3, .atHL => .set_3_atHL
  | .i3, .reg .A => .set_3_A
  | .i4, .reg .B => .set_4_B
  | .i4, .reg .C => .set_4_C
  | .i4, .reg .D => .set_4_D
  | .i4, .reg .E => .set_4_E
  | .i4, .reg .H => .set_4_H
  | .i4, .reg .L => .set_4_L
  | .i4, .atHL => .set_4_atHL
  | .i4, .reg .A => .set_4_A
  | .i5, .reg .B => .set_5_B
  | .i5, .reg .C => .set_5_C
  | .i5, .reg .D => .set_5_D
  | .i5, .reg .E => .set_5_E
  | .i5, .reg .H => .set_5_H
  | .i5, .reg .L => .set_5_L
  | .i5, .atHL => .set_5_atHL
  | .i5, .reg .A => .set_5_A
  | .i6, .reg .B => .set_6_B
  | .i6, .reg .C => .set_6_C
  | .i6, .reg .D => .set_6_D
  | .i6, .reg .E => .set_6_E
  | .i6, .reg .H => .set_6_H
  | .i6, .reg .L => .set_6_L
  | .i6, .atHL => .set_6_atHL
  | .i6, .reg .A => .set_6_A
  | .i7, .reg .B => .set_7_B
  | .i7, .reg .C => .set_7_C
  | .i7, .reg .D => .set_7_D
  | .i7, .reg .E => .set_7_E
  | .i7, .reg .H => .set_7_H
  | .i7, .reg .L => .set_7_L
  | .i7, .atHL => .set_7_atHL
  | .i7, .reg .A => .set_7_A

/-- JP cc,a16 (R272). -/
def Instr.jpCond : Cond → Word → Instr
  | .NZ, addr => .jp_NZ_a16 addr
  | .Z, addr => .jp_Z_a16 addr
  | .NC, addr => .jp_NC_a16 addr
  | .C, addr => .jp_C_a16 addr

/-- CALL cc,a16 (R277). -/
def Instr.callCond : Cond → Word → Instr
  | .NZ, addr => .call_NZ_a16 addr
  | .Z, addr => .call_Z_a16 addr
  | .NC, addr => .call_NC_a16 addr
  | .C, addr => .call_C_a16 addr

/-- JR cc,r8 (R275). -/
def Instr.jrCond : Cond → Byte → Instr
  | .NZ, e => .jr_NZ_r8 e
  | .Z, e => .jr_Z_r8 e
  | .NC, e => .jr_NC_r8 e
  | .C, e => .jr_C_r8 e

/-- RET cc (R279). -/
def Instr.retCond : Cond → Instr
  | .NZ => .ret_NZ
  | .Z => .ret_Z
  | .NC => .ret_NC
  | .C => .ret_C

/-- RST t (R281). -/
def Instr.rst : Index8 → Instr
  | .i0 => .rst_00H
  | .i1 => .rst_08H
  | .i2 => .rst_10H
  | .i3 => .rst_18H
  | .i4 => .rst_20H
  | .i5 => .rst_28H
  | .i6 => .rst_30H
  | .i7 => .rst_38H

/-- The eleven unassigned primary opcodes (R87), each with its byte. -/
def Instr.invalidOpcodes : List (Instr × Byte) :=
  [ (.invalid_D3, 0xD3#8), (.invalid_DB, 0xDB#8), (.invalid_DD, 0xDD#8), (.invalid_E3, 0xE3#8),
    (.invalid_E4, 0xE4#8), (.invalid_EB, 0xEB#8), (.invalid_EC, 0xEC#8), (.invalid_ED, 0xED#8),
    (.invalid_F4, 0xF4#8), (.invalid_FC, 0xFC#8), (.invalid_FD, 0xFD#8) ]

end Sys2Proof
end

