-- ==== Sys2Proof/WellFormed.lean ====
section
/-! DEFINITION. Which terms of `Instr` are instructions. Every operand is typed at its encoded width, so the only check is
that the term is not the bare prefix: "the prefix is not an instruction of its own" (47_system.md R295). -/

namespace Sys2Proof

/-- Is the term an instruction that stands whole in memory? The unassigned opcodes are well formed: they have an encoding,
and executing one raises InvalidOpcode (R87, R296). -/
def Instr.wellFormed (i : Instr) : Bool :=
  match i with
  | .prefix_CB => false
  | _ => true

end Sys2Proof
end

