-- ==== Sys2Proof/Decode.lean ====
section
/-! DEFINITION. From bytes to instructions and back (30_encoding.md): the primary and the CB table as the spec prints them
(R83), the lengths of R95, a decoder that is total on any list of bytes and rejects by name, an encoder written from
the same tables, and the table words of spec/opcode_table.json. -/

namespace Sys2Proof

/-- lo(v16) of 00_scope.md R10. -/
def lo8 (v : Word) : Byte := v.extractLsb' 0 8

/-- hi(v16) of R10. -/
def hi8 (v : Word) : Byte := v.extractLsb' 8 8

/-- hi8 ++ lo8 of R10: the first argument is the high byte. -/
def cat16 (h l : Byte) : Word := h ++ l

/-! One row of sixteen entries for each high nibble, as the maps of R83. In a primary row, `n` is the byte at PC+1 and
`nn` the little-endian word at PC+1 (R80, R85). -/

/-- Row 0x of the primary table (R83). -/
def primaryRow0 (n : Byte) (nn : Word) : List Instr :=
  [ .nop, .ld_BC_d16 nn, .ld_atBC_A, .inc_BC,
    .inc_B, .dec_B, .ld_B_d8 n, .rlca,
    .ld_atA16_SP nn, .add_HL_BC, .ld_A_atBC, .dec_BC,
    .inc_C, .dec_C, .ld_C_d8 n, .rrca ]

/-- Row 1x of the primary table (R83). -/
def primaryRow1 (n : Byte) (nn : Word) : List Instr :=
  [ .stop n, .ld_DE_d16 nn, .ld_atDE_A, .inc_DE,
    .inc_D, .dec_D, .ld_D_d8 n, .rla,
    .jr_r8 n, .add_HL_DE, .ld_A_atDE, .dec_DE,
    .inc_E, .dec_E, .ld_E_d8 n, .rra ]

/-- Row 2x of the primary table (R83). -/
def primaryRow2 (n : Byte) (nn : Word) : List Instr :=
  [ .jr_NZ_r8 n, .ld_HL_d16 nn, .ld_atHLinc_A, .inc_HL,
    .inc_H, .dec_H, .ld_H_d8 n, .daa,
    .jr_Z_r8 n, .add_HL_HL, .ld_A_atHLinc, .dec_HL,
    .inc_L, .dec_L, .ld_L_d8 n, .cpl ]

/-- Row 3x of the primary table (R83). -/
def primaryRow3 (n : Byte) (nn : Word) : List Instr :=
  [ .jr_NC_r8 n, .ld_SP_d16 nn, .ld_atHLdec_A, .inc_SP,
    .inc_atHL, .dec_atHL, .ld_atHL_d8 n, .scf,
    .jr_C_r8 n, .add_HL_SP, .ld_A_atHLdec, .dec_SP,
    .inc_A, .dec_A, .ld_A_d8 n, .ccf ]

/-- Row 4x of the primary table (R83). -/
def primaryRow4 (_n : Byte) (_nn : Word) : List Instr :=
  [ .ld_B_B, .ld_B_C, .ld_B_D, .ld_B_E,
    .ld_B_H, .ld_B_L, .ld_B_atHL, .ld_B_A,
    .ld_C_B, .ld_C_C, .ld_C_D, .ld_C_E,
    .ld_C_H, .ld_C_L, .ld_C_atHL, .ld_C_A ]

/-- Row 5x of the primary table (R83). -/
def primaryRow5 (_n : Byte) (_nn : Word) : List Instr :=
  [ .ld_D_B, .ld_D_C, .ld_D_D, .ld_D_E,
    .ld_D_H, .ld_D_L, .ld_D_atHL, .ld_D_A,
    .ld_E_B, .ld_E_C, .ld_E_D, .ld_E_E,
    .ld_E_H, .ld_E_L, .ld_E_atHL, .ld_E_A ]

/-- Row 6x of the primary table (R83). -/
def primaryRow6 (_n : Byte) (_nn : Word) : List Instr :=
  [ .ld_H_B, .ld_H_C, .ld_H_D, .ld_H_E,
    .ld_H_H, .ld_H_L, .ld_H_atHL, .ld_H_A,
    .ld_L_B, .ld_L_C, .ld_L_D, .ld_L_E,
    .ld_L_H, .ld_L_L, .ld_L_atHL, .ld_L_A ]

/-- Row 7x of the primary table (R83). -/
def primaryRow7 (_n : Byte) (_nn : Word) : List Instr :=
  [ .ld_atHL_B, .ld_atHL_C, .ld_atHL_D, .ld_atHL_E,
    .ld_atHL_H, .ld_atHL_L, .halt, .ld_atHL_A,
    .ld_A_B, .ld_A_C, .ld_A_D, .ld_A_E,
    .ld_A_H, .ld_A_L, .ld_A_atHL, .ld_A_A ]

/-- Row 8x of the primary table (R83). -/
def primaryRow8 (_n : Byte) (_nn : Word) : List Instr :=
  [ .add_A_B, .add_A_C, .add_A_D, .add_A_E,
    .add_A_H, .add_A_L, .add_A_atHL, .add_A_A,
    .adc_A_B, .adc_A_C, .adc_A_D, .adc_A_E,
    .adc_A_H, .adc_A_L, .adc_A_atHL, .adc_A_A ]

/-- Row 9x of the primary table (R83). -/
def primaryRow9 (_n : Byte) (_nn : Word) : List Instr :=
  [ .sub_B, .sub_C, .sub_D, .sub_E,
    .sub_H, .sub_L, .sub_atHL, .sub_A,
    .sbc_A_B, .sbc_A_C, .sbc_A_D, .sbc_A_E,
    .sbc_A_H, .sbc_A_L, .sbc_A_atHL, .sbc_A_A ]

/-- Row Ax of the primary table (R83). -/
def primaryRowA (_n : Byte) (_nn : Word) : List Instr :=
  [ .and_B, .and_C, .and_D, .and_E,
    .and_H, .and_L, .and_atHL, .and_A,
    .xor_B, .xor_C, .xor_D, .xor_E,
    .xor_H, .xor_L, .xor_atHL, .xor_A ]

/-- Row Bx of the primary table (R83). -/
def primaryRowB (_n : Byte) (_nn : Word) : List Instr :=
  [ .or_B, .or_C, .or_D, .or_E,
    .or_H, .or_L, .or_atHL, .or_A,
    .cp_B, .cp_C, .cp_D, .cp_E,
    .cp_H, .cp_L, .cp_atHL, .cp_A ]

/-- Row Cx of the primary table (R83). -/
def primaryRowC (n : Byte) (nn : Word) : List Instr :=
  [ .ret_NZ, .pop_BC, .jp_NZ_a16 nn, .jp_a16 nn,
    .call_NZ_a16 nn, .push_BC, .add_A_d8 n, .rst_00H,
    .ret_Z, .ret, .jp_Z_a16 nn, .prefix_CB,
    .call_Z_a16 nn, .call_a16 nn, .adc_A_d8 n, .rst_08H ]

/-- Row Dx of the primary table (R83). -/
def primaryRowD (n : Byte) (nn : Word) : List Instr :=
  [ .ret_NC, .pop_DE, .jp_NC_a16 nn, .invalid_D3,
    .call_NC_a16 nn, .push_DE, .sub_d8 n, .rst_10H,
    .ret_C, .reti, .jp_C_a16 nn, .invalid_DB,
    .call_C_a16 nn, .invalid_DD, .sbc_A_d8 n, .rst_18H ]

/-- Row Ex of the primary table (R83). -/
def primaryRowE (n : Byte) (nn : Word) : List Instr :=
  [ .ldh_atA8_A n, .pop_HL, .ld_atC_A, .invalid_E3,
    .invalid_E4, .push_HL, .and_d8 n, .rst_20H,
    .add_SP_r8 n, .jp_HL, .ld_atA16_A nn, .invalid_EB,
    .invalid_EC, .invalid_ED, .xor_d8 n, .rst_28H ]

/-- Row Fx of the primary table (R83). -/
def primaryRowF (n : Byte) (nn : Word) : List Instr :=
  [ .ldh_A_atA8 n, .pop_AF, .ld_A_atC, .di,
    .invalid_F4, .push_AF, .or_d8 n, .rst_30H,
    .ld_HL_SPr8 n, .ld_SP_HL, .ld_A_atA16 nn, .ei,
    .invalid_FC, .invalid_FD, .cp_d8 n, .rst_38H ]

/-- The primary table (R83). Slot 0xCB holds the hook for the CB table. -/
def primaryTable (n : Byte) (nn : Word) : List (List Instr) :=
  [ primaryRow0 n nn, primaryRow1 n nn, primaryRow2 n nn, primaryRow3 n nn,
    primaryRow4 n nn, primaryRow5 n nn, primaryRow6 n nn, primaryRow7 n nn,
    primaryRow8 n nn, primaryRow9 n nn, primaryRowA n nn, primaryRowB n nn,
    primaryRowC n nn, primaryRowD n nn, primaryRowE n nn, primaryRowF n nn ]

/-- Row 0x of the CB-prefixed table (R83, R84). -/
def cbRow0 : List Instr :=
  [ .rlc_B, .rlc_C, .rlc_D, .rlc_E, .rlc_H, .rlc_L, .rlc_atHL, .rlc_A,
    .rrc_B, .rrc_C, .rrc_D, .rrc_E, .rrc_H, .rrc_L, .rrc_atHL, .rrc_A ]

/-- Row 1x of the CB-prefixed table (R83, R84). -/
def cbRow1 : List Instr :=
  [ .rl_B, .rl_C, .rl_D, .rl_E, .rl_H, .rl_L, .rl_atHL, .rl_A,
    .rr_B, .rr_C, .rr_D, .rr_E, .rr_H, .rr_L, .rr_atHL, .rr_A ]

/-- Row 2x of the CB-prefixed table (R83, R84). -/
def cbRow2 : List Instr :=
  [ .sla_B, .sla_C, .sla_D, .sla_E, .sla_H, .sla_L, .sla_atHL, .sla_A,
    .sra_B, .sra_C, .sra_D, .sra_E, .sra_H, .sra_L, .sra_atHL, .sra_A ]

/-- Row 3x of the CB-prefixed table (R83, R84). -/
def cbRow3 : List Instr :=
  [ .swap_B, .swap_C, .swap_D, .swap_E, .swap_H, .swap_L, .swap_atHL, .swap_A,
    .srl_B, .srl_C, .srl_D, .srl_E, .srl_H, .srl_L, .srl_atHL, .srl_A ]

/-- Row 4x of the CB-prefixed table (R83, R84). -/
def cbRow4 : List Instr :=
  [ .bit_0_B, .bit_0_C, .bit_0_D, .bit_0_E, .bit_0_H, .bit_0_L, .bit_0_atHL, .bit_0_A,
    .bit_1_B, .bit_1_C, .bit_1_D, .bit_1_E, .bit_1_H, .bit_1_L, .bit_1_atHL, .bit_1_A ]

/-- Row 5x of the CB-prefixed table (R83, R84). -/
def cbRow5 : List Instr :=
  [ .bit_2_B, .bit_2_C, .bit_2_D, .bit_2_E, .bit_2_H, .bit_2_L, .bit_2_atHL, .bit_2_A,
    .bit_3_B, .bit_3_C, .bit_3_D, .bit_3_E, .bit_3_H, .bit_3_L, .bit_3_atHL, .bit_3_A ]

/-- Row 6x of the CB-prefixed table (R83, R84). -/
def cbRow6 : List Instr :=
  [ .bit_4_B, .bit_4_C, .bit_4_D, .bit_4_E, .bit_4_H, .bit_4_L, .bit_4_atHL, .bit_4_A,
    .bit_5_B, .bit_5_C, .bit_5_D, .bit_5_E, .bit_5_H, .bit_5_L, .bit_5_atHL, .bit_5_A ]

/-- Row 7x of the CB-prefixed table (R83, R84). -/
def cbRow7 : List Instr :=
  [ .bit_6_B, .bit_6_C, .bit_6_D, .bit_6_E, .bit_6_H, .bit_6_L, .bit_6_atHL, .bit_6_A,
    .bit_7_B, .bit_7_C, .bit_7_D, .bit_7_E, .bit_7_H, .bit_7_L, .bit_7_atHL, .bit_7_A ]

/-- Row 8x of the CB-prefixed table (R83, R84). -/
def cbRow8 : List Instr :=
  [ .res_0_B, .res_0_C, .res_0_D, .res_0_E, .res_0_H, .res_0_L, .res_0_atHL, .res_0_A,
    .res_1_B, .res_1_C, .res_1_D, .res_1_E, .res_1_H, .res_1_L, .res_1_atHL, .res_1_A ]

/-- Row 9x of the CB-prefixed table (R83, R84). -/
def cbRow9 : List Instr :=
  [ .res_2_B, .res_2_C, .res_2_D, .res_2_E, .res_2_H, .res_2_L, .res_2_atHL, .res_2_A,
    .res_3_B, .res_3_C, .res_3_D, .res_3_E, .res_3_H, .res_3_L, .res_3_atHL, .res_3_A ]

/-- Row Ax of the CB-prefixed table (R83, R84). -/
def cbRowA : List Instr :=
  [ .res_4_B, .res_4_C, .res_4_D, .res_4_E, .res_4_H, .res_4_L, .res_4_atHL, .res_4_A,
    .res_5_B, .res_5_C, .res_5_D, .res_5_E, .res_5_H, .res_5_L, .res_5_atHL, .res_5_A ]

/-- Row Bx of the CB-prefixed table (R83, R84). -/
def cbRowB : List Instr :=
  [ .res_6_B, .res_6_C, .res_6_D, .res_6_E, .res_6_H, .res_6_L, .res_6_atHL, .res_6_A,
    .res_7_B, .res_7_C, .res_7_D, .res_7_E, .res_7_H, .res_7_L, .res_7_atHL, .res_7_A ]

/-- Row Cx of the CB-prefixed table (R83, R84). -/
def cbRowC : List Instr :=
  [ .set_0_B, .set_0_C, .set_0_D, .set_0_E, .set_0_H, .set_0_L, .set_0_atHL, .set_0_A,
    .set_1_B, .set_1_C, .set_1_D, .set_1_E, .set_1_H, .set_1_L, .set_1_atHL, .set_1_A ]

/-- Row Dx of the CB-prefixed table (R83, R84). -/
def cbRowD : List Instr :=
  [ .set_2_B, .set_2_C, .set_2_D, .set_2_E, .set_2_H, .set_2_L, .set_2_atHL, .set_2_A,
    .set_3_B, .set_3_C, .set_3_D, .set_3_E, .set_3_H, .set_3_L, .set_3_atHL, .set_3_A ]

/-- Row Ex of the CB-prefixed table (R83, R84). -/
def cbRowE : List Instr :=
  [ .set_4_B, .set_4_C, .set_4_D, .set_4_E, .set_4_H, .set_4_L, .set_4_atHL, .set_4_A,
    .set_5_B, .set_5_C, .set_5_D, .set_5_E, .set_5_H, .set_5_L, .set_5_atHL, .set_5_A ]

/-- Row Fx of the CB-prefixed table (R83, R84). -/
def cbRowF : List Instr :=
  [ .set_6_B, .set_6_C, .set_6_D, .set_6_E, .set_6_H, .set_6_L, .set_6_atHL, .set_6_A,
    .set_7_B, .set_7_C, .set_7_D, .set_7_E, .set_7_H, .set_7_L, .set_7_atHL, .set_7_A ]

/-- The CB-prefixed table (R83). -/
def cbTable : List (List Instr) :=
  [ cbRow0, cbRow1, cbRow2, cbRow3, cbRow4, cbRow5, cbRow6, cbRow7,
    cbRow8, cbRow9, cbRowA, cbRowB, cbRowC, cbRowD, cbRowE, cbRowF ]

/-- The entry of a 16 by 16 table at an opcode byte. A table of 256 entries has one for every byte, so `d` is never the
answer. -/
def tableEntry {α : Type} (t : List (List α)) (d : α) (op : Byte) : α :=
  (t.getD (op.toNat / 16) []).getD (op.toNat % 16) d

/-- PRIMARY_TABLE of 40_execution_engine.md R100: the entry at `op`, its operand read from the two bytes after it. -/
def decodePrimary (op b1 b2 : Byte) : Instr :=
  tableEntry (primaryTable b1 (cat16 b2 b1)) .nop op

/-- CB_TABLE of R100: all 256 second bytes are assigned (R87). -/
def decodeCB (cbop : Byte) : Instr :=
  tableEntry cbTable .rlc_B cbop

/-- The length of each primary opcode (R95, column len). -/
def primaryLengths : List (List Nat) :=
  [ [1, 3, 1, 1, 1, 1, 2, 1, 3, 1, 1, 1, 1, 1, 2, 1],
    [2, 3, 1, 1, 1, 1, 2, 1, 2, 1, 1, 1, 1, 1, 2, 1],
    [2, 3, 1, 1, 1, 1, 2, 1, 2, 1, 1, 1, 1, 1, 2, 1],
    [2, 3, 1, 1, 1, 1, 2, 1, 2, 1, 1, 1, 1, 1, 2, 1],
    [1, 1, 1, 1, 1, 1, 1, 1, 1, 1, 1, 1, 1, 1, 1, 1],
    [1, 1, 1, 1, 1, 1, 1, 1, 1, 1, 1, 1, 1, 1, 1, 1],
    [1, 1, 1, 1, 1, 1, 1, 1, 1, 1, 1, 1, 1, 1, 1, 1],
    [1, 1, 1, 1, 1, 1, 1, 1, 1, 1, 1, 1, 1, 1, 1, 1],
    [1, 1, 1, 1, 1, 1, 1, 1, 1, 1, 1, 1, 1, 1, 1, 1],
    [1, 1, 1, 1, 1, 1, 1, 1, 1, 1, 1, 1, 1, 1, 1, 1],
    [1, 1, 1, 1, 1, 1, 1, 1, 1, 1, 1, 1, 1, 1, 1, 1],
    [1, 1, 1, 1, 1, 1, 1, 1, 1, 1, 1, 1, 1, 1, 1, 1],
    [1, 1, 3, 3, 3, 1, 2, 1, 1, 1, 3, 2, 3, 3, 2, 1],
    [1, 1, 3, 1, 3, 1, 2, 1, 1, 1, 3, 1, 3, 1, 2, 1],
    [2, 1, 1, 1, 1, 1, 2, 1, 2, 1, 3, 1, 1, 1, 2, 1],
    [2, 1, 1, 1, 1, 1, 2, 1, 2, 1, 3, 1, 1, 1, 2, 1] ]

/-- An instruction's length, told from its first byte alone (R86). -/
def instrLength (op : Byte) : Nat := tableEntry primaryLengths 1 op

/-- The instruction that stands at three consecutive bytes: the two-table dispatch of R100. The bytes past the
instruction's length do not matter. -/
def decode3 (b0 b1 b2 : Byte) : Instr :=
  if b0 = 0xCB#8 then decodeCB b1 else decodePrimary b0 b1 b2

/-- Why a list of bytes holds no whole instruction. Every byte has an entry, so there is no other reason. -/
inductive DecodeError where
  /-- There is no byte at all. -/
  | noBytes
  /-- The opcode's length (R86) is more than the bytes there are. -/
  | truncated (opcode : Byte) (needed : Nat)
  deriving DecidableEq, Repr

/-- What decoding a list of bytes gives: an instruction and the bytes after it, or a rejection by name. -/
inductive DecodeResult where
  | ok (i : Instr) (rest : List Byte)
  | rejected (e : DecodeError)
  deriving DecidableEq, Repr

/-- The decoder, on any list of bytes: it takes as many bytes as the first one says (R86). -/
def decode : List Byte → DecodeResult
  | [] => .rejected .noBytes
  | op :: rest =>
    match instrLength op, rest with
    | 1, r => .ok (decode3 op 0 0) r
    | 2, b1 :: r => .ok (decode3 op b1 0) r
    | 3, b1 :: b2 :: r => .ok (decode3 op b1 b2) r
    | n, _ => .rejected (.truncated op n)

/-- The bytes of an instruction, the byte at PC first (R80 and the `encoding` of each table row): 16-bit operands low byte
first. -/
def encode (i : Instr) : List Byte :=
  match i with
  | .nop => [0x00#8]
  | .ld_BC_d16 nn => [0x01#8, lo8 nn, hi8 nn]
  | .ld_atBC_A => [0x02#8]
  | .inc_BC => [0x03#8]
  | .inc_B => [0x04#8]
  | .dec_B => [0x05#8]
  | .ld_B_d8 n => [0x06#8, n]
  | .rlca => [0x07#8]
  | .ld_atA16_SP addr => [0x08#8, lo8 addr, hi8 addr]
  | .add_HL_BC => [0x09#8]
  | .ld_A_atBC => [0x0A#8]
  | .dec_BC => [0x0B#8]
  | .inc_C => [0x0C#8]
  | .dec_C => [0x0D#8]
  | .ld_C_d8 n => [0x0E#8, n]
  | .rrca => [0x0F#8]
  | .stop n => [0x10#8, n]
  | .ld_DE_d16 nn => [0x11#8, lo8 nn, hi8 nn]
  | .ld_atDE_A => [0x12#8]
  | .inc_DE => [0x13#8]
  | .inc_D => [0x14#8]
  | .dec_D => [0x15#8]
  | .ld_D_d8 n => [0x16#8, n]
  | .rla => [0x17#8]
  | .jr_r8 e => [0x18#8, e]
  | .add_HL_DE => [0x19#8]
  | .ld_A_atDE => [0x1A#8]
  | .dec_DE => [0x1B#8]
  | .inc_E => [0x1C#8]
  | .dec_E => [0x1D#8]
  | .ld_E_d8 n => [0x1E#8, n]
  | .rra => [0x1F#8]
  | .jr_NZ_r8 e => [0x20#8, e]
  | .ld_HL_d16 nn => [0x21#8, lo8 nn, hi8 nn]
  | .ld_atHLinc_A => [0x22#8]
  | .inc_HL => [0x23#8]
  | .inc_H => [0x24#8]
  | .dec_H => [0x25#8]
  | .ld_H_d8 n => [0x26#8, n]
  | .daa => [0x27#8]
  | .jr_Z_r8 e => [0x28#8, e]
  | .add_HL_HL => [0x29#8]
  | .ld_A_atHLinc => [0x2A#8]
  | .dec_HL => [0x2B#8]
  | .inc_L => [0x2C#8]
  | .dec_L => [0x2D#8]
  | .ld_L_d8 n => [0x2E#8, n]
  | .cpl => [0x2F#8]
  | .jr_NC_r8 e => [0x30#8, e]
  | .ld_SP_d16 nn => [0x31#8, lo8 nn, hi8 nn]
  | .ld_atHLdec_A => [0x32#8]
  | .inc_SP => [0x33#8]
  | .inc_atHL => [0x34#8]
  | .dec_atHL => [0x35#8]
  | .ld_atHL_d8 n => [0x36#8, n]
  | .scf => [0x37#8]
  | .jr_C_r8 e => [0x38#8, e]
  | .add_HL_SP => [0x39#8]
  | .ld_A_atHLdec => [0x3A#8]
  | .dec_SP => [0x3B#8]
  | .inc_A => [0x3C#8]
  | .dec_A => [0x3D#8]
  | .ld_A_d8 n => [0x3E#8, n]
  | .ccf => [0x3F#8]
  | .ld_B_B => [0x40#8]
  | .ld_B_C => [0x41#8]
  | .ld_B_D => [0x42#8]
  | .ld_B_E => [0x43#8]
  | .ld_B_H => [0x44#8]
  | .ld_B_L => [0x45#8]
  | .ld_B_atHL => [0x46#8]
  | .ld_B_A => [0x47#8]
  | .ld_C_B => [0x48#8]
  | .ld_C_C => [0x49#8]
  | .ld_C_D => [0x4A#8]
  | .ld_C_E => [0x4B#8]
  | .ld_C_H => [0x4C#8]
  | .ld_C_L => [0x4D#8]
  | .ld_C_atHL => [0x4E#8]
  | .ld_C_A => [0x4F#8]
  | .ld_D_B => [0x50#8]
  | .ld_D_C => [0x51#8]
  | .ld_D_D => [0x52#8]
  | .ld_D_E => [0x53#8]
  | .ld_D_H => [0x54#8]
  | .ld_D_L => [0x55#8]
  | .ld_D_atHL => [0x56#8]
  | .ld_D_A => [0x57#8]
  | .ld_E_B => [0x58#8]
  | .ld_E_C => [0x59#8]
  | .ld_E_D => [0x5A#8]
  | .ld_E_E => [0x5B#8]
  | .ld_E_H => [0x5C#8]
  | .ld_E_L => [0x5D#8]
  | .ld_E_atHL => [0x5E#8]
  | .ld_E_A => [0x5F#8]
  | .ld_H_B => [0x60#8]
  | .ld_H_C => [0x61#8]
  | .ld_H_D => [0x62#8]
  | .ld_H_E => [0x63#8]
  | .ld_H_H => [0x64#8]
  | .ld_H_L => [0x65#8]
  | .ld_H_atHL => [0x66#8]
  | .ld_H_A => [0x67#8]
  | .ld_L_B => [0x68#8]
  | .ld_L_C => [0x69#8]
  | .ld_L_D => [0x6A#8]
  | .ld_L_E => [0x6B#8]
  | .ld_L_H => [0x6C#8]
  | .ld_L_L => [0x6D#8]
  | .ld_L_atHL => [0x6E#8]
  | .ld_L_A => [0x6F#8]
  | .ld_atHL_B => [0x70#8]
  | .ld_atHL_C => [0x71#8]
  | .ld_atHL_D => [0x72#8]
  | .ld_atHL_E => [0x73#8]
  | .ld_atHL_H => [0x74#8]
  | .ld_atHL_L => [0x75#8]
  | .halt => [0x76#8]
  | .ld_atHL_A => [0x77#8]
  | .ld_A_B => [0x78#8]
  | .ld_A_C => [0x79#8]
  | .ld_A_D => [0x7A#8]
  | .ld_A_E => [0x7B#8]
  | .ld_A_H => [0x7C#8]
  | .ld_A_L => [0x7D#8]
  | .ld_A_atHL => [0x7E#8]
  | .ld_A_A => [0x7F#8]
  | .add_A_B => [0x80#8]
  | .add_A_C => [0x81#8]
  | .add_A_D => [0x82#8]
  | .add_A_E => [0x83#8]
  | .add_A_H => [0x84#8]
  | .add_A_L => [0x85#8]
  | .add_A_atHL => [0x86#8]
  | .add_A_A => [0x87#8]
  | .adc_A_B => [0x88#8]
  | .adc_A_C => [0x89#8]
  | .adc_A_D => [0x8A#8]
  | .adc_A_E => [0x8B#8]
  | .adc_A_H => [0x8C#8]
  | .adc_A_L => [0x8D#8]
  | .adc_A_atHL => [0x8E#8]
  | .adc_A_A => [0x8F#8]
  | .sub_B => [0x90#8]
  | .sub_C => [0x91#8]
  | .sub_D => [0x92#8]
  | .sub_E => [0x93#8]
  | .sub_H => [0x94#8]
  | .sub_L => [0x95#8]
  | .sub_atHL => [0x96#8]
  | .sub_A => [0x97#8]
  | .sbc_A_B => [0x98#8]
  | .sbc_A_C => [0x99#8]
  | .sbc_A_D => [0x9A#8]
  | .sbc_A_E => [0x9B#8]
  | .sbc_A_H => [0x9C#8]
  | .sbc_A_L => [0x9D#8]
  | .sbc_A_atHL => [0x9E#8]
  | .sbc_A_A => [0x9F#8]
  | .and_B => [0xA0#8]
  | .and_C => [0xA1#8]
  | .and_D => [0xA2#8]
  | .and_E => [0xA3#8]
  | .and_H => [0xA4#8]
  | .and_L => [0xA5#8]
  | .and_atHL => [0xA6#8]
  | .and_A => [0xA7#8]
  | .xor_B => [0xA8#8]
  | .xor_C => [0xA9#8]
  | .xor_D => [0xAA#8]
  | .xor_E => [0xAB#8]
  | .xor_H => [0xAC#8]
  | .xor_L => [0xAD#8]
  | .xor_atHL => [0xAE#8]
  | .xor_A => [0xAF#8]
  | .or_B => [0xB0#8]
  | .or_C => [0xB1#8]
  | .or_D => [0xB2#8]
  | .or_E => [0xB3#8]
  | .or_H => [0xB4#8]
  | .or_L => [0xB5#8]
  | .or_atHL => [0xB6#8]
  | .or_A => [0xB7#8]
  | .cp_B => [0xB8#8]
  | .cp_C => [0xB9#8]
  | .cp_D => [0xBA#8]
  | .cp_E => [0xBB#8]
  | .cp_H => [0xBC#8]
  | .cp_L => [0xBD#8]
  | .cp_atHL => [0xBE#8]
  | .cp_A => [0xBF#8]
  | .ret_NZ => [0xC0#8]
  | .pop_BC => [0xC1#8]
  | .jp_NZ_a16 addr => [0xC2#8, lo8 addr, hi8 addr]
  | .jp_a16 addr => [0xC3#8, lo8 addr, hi8 addr]
  | .call_NZ_a16 addr => [0xC4#8, lo8 addr, hi8 addr]
  | .push_BC => [0xC5#8]
  | .add_A_d8 n => [0xC6#8, n]
  | .rst_00H => [0xC7#8]
  | .ret_Z => [0xC8#8]
  | .ret => [0xC9#8]
  | .jp_Z_a16 addr => [0xCA#8, lo8 addr, hi8 addr]
  | .prefix_CB => [0xCB#8]
  | .call_Z_a16 addr => [0xCC#8, lo8 addr, hi8 addr]
  | .call_a16 addr => [0xCD#8, lo8 addr, hi8 addr]
  | .adc_A_d8 n => [0xCE#8, n]
  | .rst_08H => [0xCF#8]
  | .ret_NC => [0xD0#8]
  | .pop_DE => [0xD1#8]
  | .jp_NC_a16 addr => [0xD2#8, lo8 addr, hi8 addr]
  | .invalid_D3 => [0xD3#8]
  | .call_NC_a16 addr => [0xD4#8, lo8 addr, hi8 addr]
  | .push_DE => [0xD5#8]
  | .sub_d8 n => [0xD6#8, n]
  | .rst_10H => [0xD7#8]
  | .ret_C => [0xD8#8]
  | .reti => [0xD9#8]
  | .jp_C_a16 addr => [0xDA#8, lo8 addr, hi8 addr]
  | .invalid_DB => [0xDB#8]
  | .call_C_a16 addr => [0xDC#8, lo8 addr, hi8 addr]
  | .invalid_DD => [0xDD#8]
  | .sbc_A_d8 n => [0xDE#8, n]
  | .rst_18H => [0xDF#8]
  | .ldh_atA8_A n => [0xE0#8, n]
  | .pop_HL => [0xE1#8]
  | .ld_atC_A => [0xE2#8]
  | .invalid_E3 => [0xE3#8]
  | .invalid_E4 => [0xE4#8]
  | .push_HL => [0xE5#8]
  | .and_d8 n => [0xE6#8, n]
  | .rst_20H => [0xE7#8]
  | .add_SP_r8 e => [0xE8#8, e]
  | .jp_HL => [0xE9#8]
  | .ld_atA16_A addr => [0xEA#8, lo8 addr, hi8 addr]
  | .invalid_EB => [0xEB#8]
  | .invalid_EC => [0xEC#8]
  | .invalid_ED => [0xED#8]
  | .xor_d8 n => [0xEE#8, n]
  | .rst_28H => [0xEF#8]
  | .ldh_A_atA8 n => [0xF0#8, n]
  | .pop_AF => [0xF1#8]
  | .ld_A_atC => [0xF2#8]
  | .di => [0xF3#8]
  | .invalid_F4 => [0xF4#8]
  | .push_AF => [0xF5#8]
  | .or_d8 n => [0xF6#8, n]
  | .rst_30H => [0xF7#8]
  | .ld_HL_SPr8 e => [0xF8#8, e]
  | .ld_SP_HL => [0xF9#8]
  | .ld_A_atA16 addr => [0xFA#8, lo8 addr, hi8 addr]
  | .ei => [0xFB#8]
  | .invalid_FC => [0xFC#8]
  | .invalid_FD => [0xFD#8]
  | .cp_d8 n => [0xFE#8, n]
  | .rst_38H => [0xFF#8]
  | .rlc_B => [0xCB#8, 0x00#8]
  | .rlc_C => [0xCB#8, 0x01#8]
  | .rlc_D => [0xCB#8, 0x02#8]
  | .rlc_E => [0xCB#8, 0x03#8]
  | .rlc_H => [0xCB#8, 0x04#8]
  | .rlc_L => [0xCB#8, 0x05#8]
  | .rlc_atHL => [0xCB#8, 0x06#8]
  | .rlc_A => [0xCB#8, 0x07#8]
  | .rrc_B => [0xCB#8, 0x08#8]
  | .rrc_C => [0xCB#8, 0x09#8]
  | .rrc_D => [0xCB#8, 0x0A#8]
  | .rrc_E => [0xCB#8, 0x0B#8]
  | .rrc_H => [0xCB#8, 0x0C#8]
  | .rrc_L => [0xCB#8, 0x0D#8]
  | .rrc_atHL => [0xCB#8, 0x0E#8]
  | .rrc_A => [0xCB#8, 0x0F#8]
  | .rl_B => [0xCB#8, 0x10#8]
  | .rl_C => [0xCB#8, 0x11#8]
  | .rl_D => [0xCB#8, 0x12#8]
  | .rl_E => [0xCB#8, 0x13#8]
  | .rl_H => [0xCB#8, 0x14#8]
  | .rl_L => [0xCB#8, 0x15#8]
  | .rl_atHL => [0xCB#8, 0x16#8]
  | .rl_A => [0xCB#8, 0x17#8]
  | .rr_B => [0xCB#8, 0x18#8]
  | .rr_C => [0xCB#8, 0x19#8]
  | .rr_D => [0xCB#8, 0x1A#8]
  | .rr_E => [0xCB#8, 0x1B#8]
  | .rr_H => [0xCB#8, 0x1C#8]
  | .rr_L => [0xCB#8, 0x1D#8]
  | .rr_atHL => [0xCB#8, 0x1E#8]
  | .rr_A => [0xCB#8, 0x1F#8]
  | .sla_B => [0xCB#8, 0x20#8]
  | .sla_C => [0xCB#8, 0x21#8]
  | .sla_D => [0xCB#8, 0x22#8]
  | .sla_E => [0xCB#8, 0x23#8]
  | .sla_H => [0xCB#8, 0x24#8]
  | .sla_L => [0xCB#8, 0x25#8]
  | .sla_atHL => [0xCB#8, 0x26#8]
  | .sla_A => [0xCB#8, 0x27#8]
  | .sra_B => [0xCB#8, 0x28#8]
  | .sra_C => [0xCB#8, 0x29#8]
  | .sra_D => [0xCB#8, 0x2A#8]
  | .sra_E => [0xCB#8, 0x2B#8]
  | .sra_H => [0xCB#8, 0x2C#8]
  | .sra_L => [0xCB#8, 0x2D#8]
  | .sra_atHL => [0xCB#8, 0x2E#8]
  | .sra_A => [0xCB#8, 0x2F#8]
  | .swap_B => [0xCB#8, 0x30#8]
  | .swap_C => [0xCB#8, 0x31#8]
  | .swap_D => [0xCB#8, 0x32#8]
  | .swap_E => [0xCB#8, 0x33#8]
  | .swap_H => [0xCB#8, 0x34#8]
  | .swap_L => [0xCB#8, 0x35#8]
  | .swap_atHL => [0xCB#8, 0x36#8]
  | .swap_A => [0xCB#8, 0x37#8]
  | .srl_B => [0xCB#8, 0x38#8]
  | .srl_C => [0xCB#8, 0x39#8]
  | .srl_D => [0xCB#8, 0x3A#8]
  | .srl_E => [0xCB#8, 0x3B#8]
  | .srl_H => [0xCB#8, 0x3C#8]
  | .srl_L => [0xCB#8, 0x3D#8]
  | .srl_atHL => [0xCB#8, 0x3E#8]
  | .srl_A => [0xCB#8, 0x3F#8]
  | .bit_0_B => [0xCB#8, 0x40#8]
  | .bit_0_C => [0xCB#8, 0x41#8]
  | .bit_0_D => [0xCB#8, 0x42#8]
  | .bit_0_E => [0xCB#8, 0x43#8]
  | .bit_0_H => [0xCB#8, 0x44#8]
  | .bit_0_L => [0xCB#8, 0x45#8]
  | .bit_0_atHL => [0xCB#8, 0x46#8]
  | .bit_0_A => [0xCB#8, 0x47#8]
  | .bit_1_B => [0xCB#8, 0x48#8]
  | .bit_1_C => [0xCB#8, 0x49#8]
  | .bit_1_D => [0xCB#8, 0x4A#8]
  | .bit_1_E => [0xCB#8, 0x4B#8]
  | .bit_1_H => [0xCB#8, 0x4C#8]
  | .bit_1_L => [0xCB#8, 0x4D#8]
  | .bit_1_atHL => [0xCB#8, 0x4E#8]
  | .bit_1_A => [0xCB#8, 0x4F#8]
  | .bit_2_B => [0xCB#8, 0x50#8]
  | .bit_2_C => [0xCB#8, 0x51#8]
  | .bit_2_D => [0xCB#8, 0x52#8]
  | .bit_2_E => [0xCB#8, 0x53#8]
  | .bit_2_H => [0xCB#8, 0x54#8]
  | .bit_2_L => [0xCB#8, 0x55#8]
  | .bit_2_atHL => [0xCB#8, 0x56#8]
  | .bit_2_A => [0xCB#8, 0x57#8]
  | .bit_3_B => [0xCB#8, 0x58#8]
  | .bit_3_C => [0xCB#8, 0x59#8]
  | .bit_3_D => [0xCB#8, 0x5A#8]
  | .bit_3_E => [0xCB#8, 0x5B#8]
  | .bit_3_H => [0xCB#8, 0x5C#8]
  | .bit_3_L => [0xCB#8, 0x5D#8]
  | .bit_3_atHL => [0xCB#8, 0x5E#8]
  | .bit_3_A => [0xCB#8, 0x5F#8]
  | .bit_4_B => [0xCB#8, 0x60#8]
  | .bit_4_C => [0xCB#8, 0x61#8]
  | .bit_4_D => [0xCB#8, 0x62#8]
  | .bit_4_E => [0xCB#8, 0x63#8]
  | .bit_4_H => [0xCB#8, 0x64#8]
  | .bit_4_L => [0xCB#8, 0x65#8]
  | .bit_4_atHL => [0xCB#8, 0x66#8]
  | .bit_4_A => [0xCB#8, 0x67#8]
  | .bit_5_B => [0xCB#8, 0x68#8]
  | .bit_5_C => [0xCB#8, 0x69#8]
  | .bit_5_D => [0xCB#8, 0x6A#8]
  | .bit_5_E => [0xCB#8, 0x6B#8]
  | .bit_5_H => [0xCB#8, 0x6C#8]
  | .bit_5_L => [0xCB#8, 0x6D#8]
  | .bit_5_atHL => [0xCB#8, 0x6E#8]
  | .bit_5_A => [0xCB#8, 0x6F#8]
  | .bit_6_B => [0xCB#8, 0x70#8]
  | .bit_6_C => [0xCB#8, 0x71#8]
  | .bit_6_D => [0xCB#8, 0x72#8]
  | .bit_6_E => [0xCB#8, 0x73#8]
  | .bit_6_H => [0xCB#8, 0x74#8]
  | .bit_6_L => [0xCB#8, 0x75#8]
  | .bit_6_atHL => [0xCB#8, 0x76#8]
  | .bit_6_A => [0xCB#8, 0x77#8]
  | .bit_7_B => [0xCB#8, 0x78#8]
  | .bit_7_C => [0xCB#8, 0x79#8]
  | .bit_7_D => [0xCB#8, 0x7A#8]
  | .bit_7_E => [0xCB#8, 0x7B#8]
  | .bit_7_H => [0xCB#8, 0x7C#8]
  | .bit_7_L => [0xCB#8, 0x7D#8]
  | .bit_7_atHL => [0xCB#8, 0x7E#8]
  | .bit_7_A => [0xCB#8, 0x7F#8]
  | .res_0_B => [0xCB#8, 0x80#8]
  | .res_0_C => [0xCB#8, 0x81#8]
  | .res_0_D => [0xCB#8, 0x82#8]
  | .res_0_E => [0xCB#8, 0x83#8]
  | .res_0_H => [0xCB#8, 0x84#8]
  | .res_0_L => [0xCB#8, 0x85#8]
  | .res_0_atHL => [0xCB#8, 0x86#8]
  | .res_0_A => [0xCB#8, 0x87#8]
  | .res_1_B => [0xCB#8, 0x88#8]
  | .res_1_C => [0xCB#8, 0x89#8]
  | .res_1_D => [0xCB#8, 0x8A#8]
  | .res_1_E => [0xCB#8, 0x8B#8]
  | .res_1_H => [0xCB#8, 0x8C#8]
  | .res_1_L => [0xCB#8, 0x8D#8]
  | .res_1_atHL => [0xCB#8, 0x8E#8]
  | .res_1_A => [0xCB#8, 0x8F#8]
  | .res_2_B => [0xCB#8, 0x90#8]
  | .res_2_C => [0xCB#8, 0x91#8]
  | .res_2_D => [0xCB#8, 0x92#8]
  | .res_2_E => [0xCB#8, 0x93#8]
  | .res_2_H => [0xCB#8, 0x94#8]
  | .res_2_L => [0xCB#8, 0x95#8]
  | .res_2_atHL => [0xCB#8, 0x96#8]
  | .res_2_A => [0xCB#8, 0x97#8]
  | .res_3_B => [0xCB#8, 0x98#8]
  | .res_3_C => [0xCB#8, 0x99#8]
  | .res_3_D => [0xCB#8, 0x9A#8]
  | .res_3_E => [0xCB#8, 0x9B#8]
  | .res_3_H => [0xCB#8, 0x9C#8]
  | .res_3_L => [0xCB#8, 0x9D#8]
  | .res_3_atHL => [0xCB#8, 0x9E#8]
  | .res_3_A => [0xCB#8, 0x9F#8]
  | .res_4_B => [0xCB#8, 0xA0#8]
  | .res_4_C => [0xCB#8, 0xA1#8]
  | .res_4_D => [0xCB#8, 0xA2#8]
  | .res_4_E => [0xCB#8, 0xA3#8]
  | .res_4_H => [0xCB#8, 0xA4#8]
  | .res_4_L => [0xCB#8, 0xA5#8]
  | .res_4_atHL => [0xCB#8, 0xA6#8]
  | .res_4_A => [0xCB#8, 0xA7#8]
  | .res_5_B => [0xCB#8, 0xA8#8]
  | .res_5_C => [0xCB#8, 0xA9#8]
  | .res_5_D => [0xCB#8, 0xAA#8]
  | .res_5_E => [0xCB#8, 0xAB#8]
  | .res_5_H => [0xCB#8, 0xAC#8]
  | .res_5_L => [0xCB#8, 0xAD#8]
  | .res_5_atHL => [0xCB#8, 0xAE#8]
  | .res_5_A => [0xCB#8, 0xAF#8]
  | .res_6_B => [0xCB#8, 0xB0#8]
  | .res_6_C => [0xCB#8, 0xB1#8]
  | .res_6_D => [0xCB#8, 0xB2#8]
  | .res_6_E => [0xCB#8, 0xB3#8]
  | .res_6_H => [0xCB#8, 0xB4#8]
  | .res_6_L => [0xCB#8, 0xB5#8]
  | .res_6_atHL => [0xCB#8, 0xB6#8]
  | .res_6_A => [0xCB#8, 0xB7#8]
  | .res_7_B => [0xCB#8, 0xB8#8]
  | .res_7_C => [0xCB#8, 0xB9#8]
  | .res_7_D => [0xCB#8, 0xBA#8]
  | .res_7_E => [0xCB#8, 0xBB#8]
  | .res_7_H => [0xCB#8, 0xBC#8]
  | .res_7_L => [0xCB#8, 0xBD#8]
  | .res_7_atHL => [0xCB#8, 0xBE#8]
  | .res_7_A => [0xCB#8, 0xBF#8]
  | .set_0_B => [0xCB#8, 0xC0#8]
  | .set_0_C => [0xCB#8, 0xC1#8]
  | .set_0_D => [0xCB#8, 0xC2#8]
  | .set_0_E => [0xCB#8, 0xC3#8]
  | .set_0_H => [0xCB#8, 0xC4#8]
  | .set_0_L => [0xCB#8, 0xC5#8]
  | .set_0_atHL => [0xCB#8, 0xC6#8]
  | .set_0_A => [0xCB#8, 0xC7#8]
  | .set_1_B => [0xCB#8, 0xC8#8]
  | .set_1_C => [0xCB#8, 0xC9#8]
  | .set_1_D => [0xCB#8, 0xCA#8]
  | .set_1_E => [0xCB#8, 0xCB#8]
  | .set_1_H => [0xCB#8, 0xCC#8]
  | .set_1_L => [0xCB#8, 0xCD#8]
  | .set_1_atHL => [0xCB#8, 0xCE#8]
  | .set_1_A => [0xCB#8, 0xCF#8]
  | .set_2_B => [0xCB#8, 0xD0#8]
  | .set_2_C => [0xCB#8, 0xD1#8]
  | .set_2_D => [0xCB#8, 0xD2#8]
  | .set_2_E => [0xCB#8, 0xD3#8]
  | .set_2_H => [0xCB#8, 0xD4#8]
  | .set_2_L => [0xCB#8, 0xD5#8]
  | .set_2_atHL => [0xCB#8, 0xD6#8]
  | .set_2_A => [0xCB#8, 0xD7#8]
  | .set_3_B => [0xCB#8, 0xD8#8]
  | .set_3_C => [0xCB#8, 0xD9#8]
  | .set_3_D => [0xCB#8, 0xDA#8]
  | .set_3_E => [0xCB#8, 0xDB#8]
  | .set_3_H => [0xCB#8, 0xDC#8]
  | .set_3_L => [0xCB#8, 0xDD#8]
  | .set_3_atHL => [0xCB#8, 0xDE#8]
  | .set_3_A => [0xCB#8, 0xDF#8]
  | .set_4_B => [0xCB#8, 0xE0#8]
  | .set_4_C => [0xCB#8, 0xE1#8]
  | .set_4_D => [0xCB#8, 0xE2#8]
  | .set_4_E => [0xCB#8, 0xE3#8]
  | .set_4_H => [0xCB#8, 0xE4#8]
  | .set_4_L => [0xCB#8, 0xE5#8]
  | .set_4_atHL => [0xCB#8, 0xE6#8]
  | .set_4_A => [0xCB#8, 0xE7#8]
  | .set_5_B => [0xCB#8, 0xE8#8]
  | .set_5_C => [0xCB#8, 0xE9#8]
  | .set_5_D => [0xCB#8, 0xEA#8]
  | .set_5_E => [0xCB#8, 0xEB#8]
  | .set_5_H => [0xCB#8, 0xEC#8]
  | .set_5_L => [0xCB#8, 0xED#8]
  | .set_5_atHL => [0xCB#8, 0xEE#8]
  | .set_5_A => [0xCB#8, 0xEF#8]
  | .set_6_B => [0xCB#8, 0xF0#8]
  | .set_6_C => [0xCB#8, 0xF1#8]
  | .set_6_D => [0xCB#8, 0xF2#8]
  | .set_6_E => [0xCB#8, 0xF3#8]
  | .set_6_H => [0xCB#8, 0xF4#8]
  | .set_6_L => [0xCB#8, 0xF5#8]
  | .set_6_atHL => [0xCB#8, 0xF6#8]
  | .set_6_A => [0xCB#8, 0xF7#8]
  | .set_7_B => [0xCB#8, 0xF8#8]
  | .set_7_C => [0xCB#8, 0xF9#8]
  | .set_7_D => [0xCB#8, 0xFA#8]
  | .set_7_E => [0xCB#8, 0xFB#8]
  | .set_7_H => [0xCB#8, 0xFC#8]
  | .set_7_L => [0xCB#8, 0xFD#8]
  | .set_7_atHL => [0xCB#8, 0xFE#8]
  | .set_7_A => [0xCB#8, 0xFF#8]

/-- The number of an instruction's row: the opcode byte of a primary instruction, 256 plus the second byte of a CB-prefixed
one. It is the key of CYCLES (`Launch.cycles`). -/
def Instr.row (i : Instr) : Nat :=
  match encode i with
  | [b0, b1] => if b0 = 0xCB#8 then 256 + b1.toNat else b0.toNat
  | b0 :: _ => b0.toNat
  | [] => 0

/-- The bytes, the first at the lowest address, of an instruction whose bits the opcode table gives as the number `w`
(log entry 2). The table numbers a CB row as ONE 16-bit number with the byte 0xCB above the second byte (its `match` and
`fixed`), and every other row by its first byte alone; where a 16-bit `w` does not hold 0xCB above, its first byte is
the low one. Bytes above `nbits` are 0. -/
def tableWordBytes (nbits w : Nat) : List Byte :=
  if decide (8 < nbits) && decide (nbits ≤ 16) && decide (w / 256 % 256 = 0xCB) then
    [0xCB#8, BitVec.ofNat 8 w, 0#8]
  else
    let v := w % 2 ^ nbits
    [BitVec.ofNat 8 v, BitVec.ofNat 8 (v / 256), BitVec.ofNat 8 (v / 65536)]

/-- The instruction that the decoder reads from a table word. A row of 8 bits is an entry of the PRIMARY table (at 0xCB the
hook, which is the table's own row PREFIX CB); a longer one is decoded as its bytes are (log entry 2). -/
def decodeTableWord (nbits w : Nat) : Option Instr :=
  match tableWordBytes nbits w with
  | [b0, b1, b2] => some (if nbits ≤ 8 then decodePrimary b0 b1 b2 else decode3 b0 b1 b2)
  | _ => none

end Sys2Proof
end

