-- ==== Sys2Proof/Config.lean ====
section
/-! DEFINITION. What the spec leaves to the implementation or to the launch: the named parameters of 00_scope.md R8,
held as ONE plain record (`Launch`, 70_reset_and_hazards.md R362), and the two free values of the model: the byte that a
read of a volatile cell gives (20_memory.md R59), and what the collaborator does under a free schedule
(60_exceptions.md R320). -/

namespace Sys2Proof

/-- RESET_PROFILE (R8, R340): which register values construction gives. -/
inductive ResetProfile where
  | postBootDMG
  | powerOn
  deriving DecidableEq, Repr

/-- MEMORY_ORACLE (R8, R59). `volatile S` gives S as a list of inclusive address ranges (low, high): addresses outside
S are plain cells, a read in S is a draw, and the model keeps no contents for a cell of S (log entry 3). -/
inductive MemoryOracle where
  | flat
  | volatile (ranges : List (Nat × Nat))
  deriving DecidableEq, Repr

/-- Is the address in the set S of R59? Under `flat`, S is empty. -/
def MemoryOracle.covers : MemoryOracle → Nat → Bool
  | .flat, _ => false
  | .volatile ranges, a => ranges.any fun r => decide (r.1 ≤ a) && decide (a ≤ r.2)

/-- ADC_SBC_MODE (R8, R172): the hardware's rule, or the document's literal operand transform. -/
inductive AdcSbcMode where
  | carryIn
  | fold
  deriving DecidableEq, Repr

/-- A descriptor's tick cost (R107): a conditional branch has two costs, every other instruction one fixed cost. -/
structure Cost where
  taken    : Nat
  notTaken : Nat
  deriving DecidableEq, Repr

/-- The fixed cost of an instruction that is no conditional branch. -/
def Cost.fixed (n : Nat) : Cost := { taken := n, notTaken := n }

/-- The launch parameters of R8 and R362, each under the spec's own name. They are fixed for a run: no step and no
collaborator move writes them. MEM0 is the one launch input that stands elsewhere: it is the memory of the state
after reset (`State.resetOf`). -/
structure Launch where
  /-- RESET_PROFILE. -/
  resetProfile     : ResetProfile
  /-- MEMORY_ORACLE. -/
  memoryOracle     : MemoryOracle
  /-- CYCLES: where this launch's costs differ from the table of R95. The key is the opcode byte for a primary opcode
  and 256 plus the second byte for a CB-prefixed one. Empty in the default launch. -/
  cycles           : List (Nat × Cost)
  /-- HALT_IDLE_TICKS. -/
  haltIdleTicks    : Nat
  /-- INT_VECTORS. -/
  intVectors       : List Word
  /-- INT_DISPATCH_TICKS. -/
  intDispatchTicks : Nat
  /-- ADC_SBC_MODE. -/
  adcSbcMode       : AdcSbcMode
  /-- END (R361): the address at which a run ends normally. The spec gives no default. -/
  endAddress       : Option Word
  deriving DecidableEq, Repr

/-- The defaults of R8. -/
def Launch.default : Launch :=
  { resetProfile     := .postBootDMG
    memoryOracle     := .flat
    cycles           := []
    haltIdleTicks    := 4
    intVectors       := [0x0040#16, 0x0048#16, 0x0050#16, 0x0058#16, 0x0060#16]
    intDispatchTicks := 20
    adcSbcMode       := .carryIn
    endAddress       := none }

/-- What an address that the memory does not list reads as. DESIGN CHOICE (log entry 1), unsafe: the spec makes MEM0 a
launch input with no default (R8, R340); every MEM0 is a memory of the model, and an empty list is the all-zero one. -/
def Config.unlistedByte : Byte := 0x00#8

/-- The FREE VALUE of a volatile read (log entry 3): the byte that one read of a cell of S gives (R59, "a read of an address in
S returns any byte (a draw)"). The first argument counts the completed steps, the second tells the reads of one step
apart. It has no body: no proof can learn a value of it. -/
opaque Config.volatileByte : Nat → Nat → Byte

/-- What the interrupt collaborator does at an instruction boundary (60_exceptions.md R310, R320): nothing, Vector(v) (R311)
or Wake (R313). -/
inductive CollaboratorMove where
  | pass
  | vector (v : Word)
  | wake
  deriving DecidableEq, Repr, Inhabited

/-- The FREE VALUE of a free schedule (log entry 4): what the collaborator does at the n-th boundary. It has no body: a
claim about a state with a free schedule is a claim about every sequence of moves, endless ones among them (R320). -/
opaque Config.collaboratorMove : Nat → CollaboratorMove

end Sys2Proof
end

