-- ==== Sys2Proof/Machine/Flags.lean ====
section
/-! DEFINITION. The four flags, the write gate, and every flag computation of the spec: the 8-bit adder and subtracter with
both modes of ADC and SBC, the logic operations, INC and DEC, DAA, the rotates and shifts, the 16-bit adder and the
stack-pointer offset. -/

namespace Sys2Proof.Machine

/-- Four flag values: F as it is read, or what a microcode proposes (R26, R101). -/
structure Flags where
  z : Bool := false
  n : Bool := false
  h : Bool := false
  c : Bool := false
  deriving DecidableEq, Repr

/-- The flags that a flag byte holds: Z in bit 7, N in bit 6, H in bit 5, C in bit 4 (10_state.md R26). -/
def Flags.ofByte (f : Byte) : Flags :=
  { z := f.getLsbD 7, n := f.getLsbD 6, h := f.getLsbD 5, c := f.getLsbD 4 }

/-- The flag byte that holds these flags; bits 3 to 0 are 0 (R26). -/
def Flags.toByte (p : Flags) : Byte :=
  (if p.z then 0x80#8 else 0#8) ||| (if p.n then 0x40#8 else 0#8) |||
  (if p.h then 0x20#8 else 0#8) ||| (if p.c then 0x10#8 else 0#8)

/-- One flag's effect in a descriptor (00_scope.md R12). -/
inductive Effect where
  | computed
  | forced0
  | forced1
  | unaffected
  deriving DecidableEq, Repr

/-- The value that the gate commits, from the flag at instruction start and the proposed one (R101). -/
def Effect.commit : Effect → Bool → Bool → Bool
  | .forced0, _, _ => false
  | .forced1, _, _ => true
  | .unaffected, old, _ => old
  | .computed, _, proposed => proposed

/-- The flag write gate (10_state.md R33): one effect for each flag. It is a constant of the descriptor, loaded for one
instruction, so it carries nothing to the next one. -/
structure Gate where
  z : Effect
  n : Effect
  h : Effect
  c : Effect
  deriving DecidableEq, Repr

/-- Commit(gate, F0, P) of 40_execution_engine.md R101, as the new flag byte. -/
def commit (g : Gate) (f0 p : Flags) : Byte :=
  Flags.toByte
    { z := g.z.commit f0.z p.z
      n := g.n.commit f0.n p.n
      h := g.h.commit f0.h p.h
      c := g.c.commit f0.c p.c }

/-! The effect strings of the per-opcode table (R95), spelled in the order Z N H C with `x` for the string's `-`. -/

/-- `----` -/
def gxxxx : Gate := ⟨.unaffected, .unaffected, .unaffected, .unaffected⟩
/-- `Z0H-` -/
def gZ0Hx : Gate := ⟨.computed, .forced0, .computed, .unaffected⟩
/-- `Z1H-` -/
def gZ1Hx : Gate := ⟨.computed, .forced1, .computed, .unaffected⟩
/-- `000C` -/
def g000C : Gate := ⟨.forced0, .forced0, .forced0, .computed⟩
/-- `-0HC` -/
def gx0HC : Gate := ⟨.unaffected, .forced0, .computed, .computed⟩
/-- `Z-0C` -/
def gZx0C : Gate := ⟨.computed, .unaffected, .forced0, .computed⟩
/-- `-11-` -/
def gx11x : Gate := ⟨.unaffected, .forced1, .forced1, .unaffected⟩
/-- `-001` -/
def gx001 : Gate := ⟨.unaffected, .forced0, .forced0, .forced1⟩
/-- `-00C` -/
def gx00C : Gate := ⟨.unaffected, .forced0, .forced0, .computed⟩
/-- `Z0HC` -/
def gZ0HC : Gate := ⟨.computed, .forced0, .computed, .computed⟩
/-- `Z1HC` -/
def gZ1HC : Gate := ⟨.computed, .forced1, .computed, .computed⟩
/-- `Z010` -/
def gZ010 : Gate := ⟨.computed, .forced0, .forced1, .forced0⟩
/-- `Z000` -/
def gZ000 : Gate := ⟨.computed, .forced0, .forced0, .forced0⟩
/-- `00HC` -/
def g00HC : Gate := ⟨.forced0, .forced0, .computed, .computed⟩
/-- `ZNHC` -/
def gZNHC : Gate := ⟨.computed, .computed, .computed, .computed⟩
/-- `Z00C` -/
def gZ00C : Gate := ⟨.computed, .forced0, .forced0, .computed⟩
/-- `Z01-` -/
def gZ01x : Gate := ⟨.computed, .forced0, .forced1, .unaffected⟩

/-- `v & 0x0F` as a number. -/
def lowNibble (v : Byte) : Nat := (v &&& 0x0F#8).toNat

/-- A bit as a byte. -/
def bitByte (b : Bool) : Byte := if b then 1#8 else 0#8

/-- Add8 of 43_alu_8bit.md R170, on integers: the truncated sum and the proposed flags. -/
def add8 (a b : Byte) (cin : Bool) : Byte × Flags :=
  let s := a.toNat + b.toNat + cin.toNat
  let result := BitVec.ofNat 8 s
  (result,
    { z := result == 0#8
      n := false
      h := decide (lowNibble a + lowNibble b + cin.toNat > 0x0F)
      c := decide (s > 0xFF) })

/-- Sub8 of R171, on integers: the truncated difference and the proposed flags. -/
def sub8 (a b : Byte) (bin : Bool) : Byte × Flags :=
  let d : Int := (a.toNat : Int) - (b.toNat : Int) - (bin.toNat : Int)
  let result := BitVec.ofInt 8 d
  (result,
    { z := result == 0#8
      n := true
      h := decide ((lowNibble a : Int) - (lowNibble b : Int) - (bin.toNat : Int) < 0)
      c := decide (d < 0) })

/-- ADC in the mode `fold` of R172: the carry is added to the operand, without truncation, before the sum. -/
def adcFold (a b : Byte) (c : Bool) : Byte × Flags :=
  let b' := b.toNat + c.toNat
  let s := a.toNat + b'
  let result := BitVec.ofNat 8 s
  (result,
    { z := result == 0#8
      n := false
      h := decide (lowNibble a + b' % 16 > 0x0F)
      c := decide (s > 0xFF) })

/-- SBC in the mode `fold` of R172. -/
def sbcFold (a b : Byte) (c : Bool) : Byte × Flags :=
  let b' := b.toNat + c.toNat
  let d : Int := (a.toNat : Int) - (b' : Int)
  let result := BitVec.ofInt 8 d
  (result,
    { z := result == 0#8
      n := true
      h := decide ((lowNibble a : Int) - ((b' % 16 : Nat) : Int) < 0)
      c := decide (d < 0) })

/-- ADC under ADC_SBC_MODE (R172). -/
def adc8 (mode : AdcSbcMode) (a b : Byte) (c : Bool) : Byte × Flags :=
  match mode with
  | .carryIn => add8 a b c
  | .fold => adcFold a b c

/-- SBC under ADC_SBC_MODE (R172). -/
def sbc8 (mode : AdcSbcMode) (a b : Byte) (c : Bool) : Byte × Flags :=
  match mode with
  | .carryIn => sub8 a b c
  | .fold => sbcFold a b c

/-- And8 of R173. -/
def and8 (a b : Byte) : Byte × Flags :=
  (a &&& b, { z := (a &&& b) == 0#8, n := false, h := true, c := false })

/-- Xor8 of R173. -/
def xor8 (a b : Byte) : Byte × Flags :=
  (a ^^^ b, { z := (a ^^^ b) == 0#8, n := false, h := false, c := false })

/-- Or8 of R173. -/
def or8 (a b : Byte) : Byte × Flags :=
  (a ||| b, { z := (a ||| b) == 0#8, n := false, h := false, c := false })

/-- INC of R199: C is not proposed, the gate leaves it unaffected. -/
def inc8 (v : Byte) : Byte × Flags :=
  let res := v + 1#8
  (res, { z := res == 0#8, n := false, h := lowNibble v == 0x0F })

/-- DEC of R201. -/
def dec8 (v : Byte) : Byte × Flags :=
  let res := v - 1#8
  (res, { z := res == 0#8, n := true, h := lowNibble v == 0x00 })

/-- The canonical decimal correction of R203, from A and the flags at instruction start. -/
def daa8 (a0 : Byte) (f0 : Flags) : Byte × Flags :=
  if f0.n then
    let a1 := if f0.c then a0 - 0x60#8 else a0
    let a2 := if f0.h then a1 - 0x06#8 else a1
    (a2, { z := a2 == 0#8, h := false, c := f0.c })
  else
    let high := f0.c || decide (a0.toNat > 0x99)
    let a1 := if high then a0 + 0x60#8 else a0
    let a2 := if f0.h || decide (lowNibble a1 > 0x09) then a1 + 0x06#8 else a1
    (a2, { z := a2 == 0#8, h := false, c := high })

/-- Rot(op, v, cin) of 45_rotate_shift_bit.md R230: the result and the bit that leaves into C. -/
def rotate (op : RotOp) (v : Byte) (cin : Bool) : Byte × Bool :=
  let v7 := v.getLsbD 7
  let v0 := v.getLsbD 0
  match op with
  | .rlc => ((v <<< 1) ||| bitByte v7, v7)
  | .rrc => ((v >>> 1) ||| (bitByte v0 <<< 7), v0)
  | .rl => ((v <<< 1) ||| bitByte cin, v7)
  | .rr => ((v >>> 1) ||| (bitByte cin <<< 7), v0)
  | .sla => (v <<< 1, v7)
  | .sra => ((v >>> 1) ||| (v &&& 0x80#8), v0)
  | .srl => (v >>> 1, v0)
  | .swap => (((v &&& 0x0F#8) <<< 4) ||| (v >>> 4), false)

/-- The flags of the CB-prefixed rotates and shifts (R230): Z from the result, C the bit shifted out. -/
def rotateFlags (r : Byte × Bool) : Flags :=
  { z := r.1 == 0#8, n := false, h := false, c := r.2 }

/-- ADD HL,rr of 44_alu_16bit.md R220: carries out of bit 11 and bit 15; Z is not proposed. -/
def add16 (a b : Word) : Word × Flags :=
  let s := a.toNat + b.toNat
  (BitVec.ofNat 16 s,
    { n := false
      h := decide ((a &&& 0x0FFF#16).toNat + (b &&& 0x0FFF#16).toNat > 0x0FFF)
      c := decide (s > 0xFFFF) })

/-- sext_16 of 00_scope.md R10: `v if v < 0x80 else v + 0xFF00`. -/
def sext16 (v : Byte) : Word :=
  BitVec.ofNat 16 (if v.toNat < 0x80 then v.toNat else v.toNat + 0xFF00)

/-- SP + r8 of 42_loads_16bit_stack.md R153 and R223: the sum, with H and C of an unsigned add to SP's low byte. -/
def addSpOffset (sp : Word) (n : Byte) : Word × Flags :=
  (sp + sext16 n,
    { z := false
      n := false
      h := decide ((sp &&& 0x000F#16).toNat + lowNibble n > 0x0F)
      c := decide ((sp &&& 0x00FF#16).toNat + n.toNat > 0xFF) })

/-- The 8-bit ALU operation that an alu index selects (R82): CP is SUB's flag computation (R196). -/
def aluOp (op : AluOp) (mode : AdcSbcMode) (a b : Byte) (c : Bool) : Byte × Flags :=
  match op with
  | .add => add8 a b false
  | .adc => adc8 mode a b c
  | .sub => sub8 a b false
  | .sbc => sbc8 mode a b c
  | .and => and8 a b
  | .xor => xor8 a b
  | .or => or8 a b
  | .cp => sub8 a b false

/-- Cond(cc) of 46_control_flow.md R270, on the flags at instruction start. -/
def condHolds : Cond → Flags → Bool
  | .NZ, f0 => !f0.z
  | .Z, f0 => f0.z
  | .NC, f0 => !f0.c
  | .C, f0 => f0.c

end Sys2Proof.Machine
end

