-- ==== Sys2Proof/Machine/State.lean ====
section
/-! DEFINITION. The machine's state (10_state.md R37), the ways a step can stop, and the state after reset
(70_reset_and_hazards.md R340). All of it is plain data. -/

namespace Sys2Proof.Machine

/-- The fault outcomes of 60_exceptions.md R300, other than `none`. The state records one (R32); `step` answers with it at
every later boundary, because a faulted core has no further step (R114, R301). Stopping there is what the spec says the
machine does, so it is no difference from the hardware the spec describes. -/
inductive Fault where
  /-- An unassigned primary opcode was dispatched (R301): the opcode byte and its address. Raised by the eleven meanings
  `execInvalid_..`. Safe: R301 states this outcome. -/
  | invalidOpcode (opcode : Byte) (pc : Word)
  /-- An operand outside its width (R302). Raised by nothing: every operand carries its width in its type. Safe. -/
  | operandRangeViolation
  /-- The document's name for a table entry that is not written (R303). Raised by nothing: every entry is. Safe. -/
  | unimplemented
  deriving DecidableEq, Repr

/-- The code of FAULT (R300). -/
def Fault.code : Option Fault → Nat
  | none => 0
  | some (.invalidOpcode _ _) => 1
  | some .operandRangeViolation => 2
  | some .unimplemented => 3

/-- Why the model gives an instruction no meaning. -/
inductive Refusal where
  /-- Raised by an arm of `exec` whose instruction has no meaning yet; no arm of this model is one. Safe. -/
  | notModelled (mnemonic : String)
  deriving DecidableEq, Repr

/-- The interrupt collaborator's moves at the coming instruction boundaries, one for each (R320; log entry 4). An endless
schedule is data too: a period that comes round again, or a free one. -/
inductive Schedule where
  /-- The collaborator never acts again. -/
  | quiet
  /-- The move `m` at the next boundary, then the rest. -/
  | first (m : CollaboratorMove) (rest : Schedule)
  /-- The moves `m :: later`, over and over without end. -/
  | again (m : CollaboratorMove) (later : List CollaboratorMove)
  /-- Any move at every boundary without end: the free values `Config.collaboratorMove n`, then those of n + 1, and so on. -/
  | free (n : Nat)
  deriving DecidableEq, Repr

/-- Memory: (address, byte) pairs in one canonical form (`Memory.wf`). An address that is not listed reads as
`Config.unlistedByte`. -/
abbrev Memory := List Host.Cell

/-- The state of the core (R37), the memory collaborator's contents (20_memory.md R50), the launch parameters (R362) and
two pieces of the model's own: what the collaborator does at the coming boundaries, and the index of the next draws. -/
structure State where
  /-- The accumulator (R20). -/
  a : Byte
  /-- The flag byte: Z, N, H, C in bits 7 to 4, bits 3 to 0 always 0 (R26). -/
  f : Byte
  /-- B (R20); B is the high half of BC (R21). -/
  b : Byte
  /-- C (R20). -/
  c : Byte
  /-- D (R20); D is the high half of DE (R21). -/
  d : Byte
  /-- E (R20). -/
  e : Byte
  /-- H (R20); H is the high half of HL (R21). -/
  h : Byte
  /-- L (R20). -/
  l : Byte
  /-- The stack pointer (R24). -/
  sp : Word
  /-- The program counter: the address of the next instruction's first byte (R25). -/
  pc : Word
  /-- IME, interrupts enabled (R30). -/
  ime : Bool
  /-- HALTED: the run state is Halted (R30). -/
  halted : Bool
  /-- The clock `ticks`, unbounded (R31). -/
  ticks : Nat
  /-- FAULT (R32); `none` is the normal state. -/
  fault : Option Fault
  /-- The 65,536 bytes behind the memory contract (R50, R51). -/
  mem : Memory
  /-- The launch parameters (R8, R362). No step writes them. -/
  launch : Launch
  /-- The model's own: the collaborator's moves at the coming boundaries. The schedule is free (R320), so a claim for every
  state is a claim for every schedule, endless ones among them. When it is `quiet` the collaborator does not act. -/
  schedule : Schedule
  /-- The model's own: the number of completed instructions, which indexes the draws of volatile reads (R59). -/
  draws : Nat
  deriving DecidableEq, Repr

/-- The draws that the profile PowerOn makes at reset (R340, R341): one value for each register marked "draw". -/
structure PowerOnDraws where
  a : Byte
  f : Byte
  b : Byte
  c : Byte
  d : Byte
  e : Byte
  h : Byte
  l : Byte
  sp : Word
  deriving DecidableEq, Repr

/-- Construction of the CPU instance for a launch (R340, R362): the profile's register values, MEM0 as given, and the
collaborator's schedule as given. Under PowerOn bits 3 to 0 of F are 0 whatever was drawn. -/
def State.resetOf (launch : Launch) (drawn : PowerOnDraws) (mem0 : Memory) (schedule : Schedule) : State :=
  match launch.resetProfile with
  | .postBootDMG =>
    { a := 0x01#8, f := 0xB0#8, b := 0x00#8, c := 0x13#8, d := 0x00#8, e := 0xD8#8, h := 0x01#8, l := 0x4D#8,
      sp := 0xFFFE#16, pc := 0x0100#16, ime := false, halted := false, ticks := 0, fault := none,
      mem := mem0, launch := launch, schedule := schedule, draws := 0 }
  | .powerOn =>
    { a := drawn.a, f := drawn.f &&& 0xF0#8, b := drawn.b, c := drawn.c, d := drawn.d, e := drawn.e, h := drawn.h,
      l := drawn.l, sp := drawn.sp, pc := 0x0000#16, ime := false, halted := false, ticks := 0, fault := none,
      mem := mem0, launch := launch, schedule := schedule, draws := 0 }

/-- The machine right after reset, every launch parameter at its default (R8): the profile PostBootDMG, nothing listed in
memory, and a collaborator that does not act. The draws given here are not used by that profile. -/
def State.reset : State :=
  State.resetOf Launch.default { a := 0, f := 0, b := 0, c := 0, d := 0, e := 0, h := 0, l := 0, sp := 0 } [] .quiet

end Sys2Proof.Machine
end

