-- ==== Sys2Proof/Machine/Ops.lean ====
section
/-! DEFINITION. The named operations over the state: the register file, memory, the stack primitives, the step of the
execution engine around a microcode, the fetch, raising a fault, interrupt dispatch, wake and the idle step. -/

namespace Sys2Proof.Machine

/-- What one step answers. -/
abbrev StepResult := Host.Outcome State Fault Refusal

/-! ### The register file (10_state.md R20 to R24): reads and writes are total -/

/-- read8 of R23. -/
def State.reg8 (s : State) : Reg8 → Byte
  | .A => s.a
  | .B => s.b
  | .C => s.c
  | .D => s.d
  | .E => s.e
  | .H => s.h
  | .L => s.l

/-- write8 of R23. -/
def State.setReg8 (s : State) (r : Reg8) (v : Byte) : State :=
  match r with
  | .A => { s with a := v }
  | .B => { s with b := v }
  | .C => { s with c := v }
  | .D => { s with d := v }
  | .E => { s with e := v }
  | .H => { s with h := v }
  | .L => { s with l := v }

/-- read16 of R23: the pair views of R21, the first-named register high, and SP. -/
def State.pair (s : State) : Pair → Word
  | .BC => cat16 s.b s.c
  | .DE => cat16 s.d s.e
  | .HL => cat16 s.h s.l
  | .SP => s.sp

/-- write16 of R23: both halves in one write (R21). -/
def State.setPair (s : State) (p : Pair) (v : Word) : State :=
  match p with
  | .BC => { s with b := hi8 v, c := lo8 v }
  | .DE => { s with d := hi8 v, e := lo8 v }
  | .HL => { s with h := hi8 v, l := lo8 v }
  | .SP => { s with sp := v }

/-- The flags at instruction start, F0 (R100, R101). -/
def State.flags (s : State) : Flags := Flags.ofByte s.f

/-- Reading AF yields "the flag byte's active bits only" (R22). -/
def State.readAF (s : State) : Word := cat16 s.a (s.f &&& 0xF0#8)

/-- Writing AF (R22): A from the high byte, F from the low byte with bits 3 to 0 cleared. POP AF does the same through the
flag gate (R101, R156). -/
def State.writeAF (s : State) (v : Word) : State :=
  { s with a := hi8 v, f := lo8 v &&& 0xF0#8 }

/-- The value PUSH writes (R154). -/
def State.stackPair (s : State) : StackPair → Word
  | .BC => s.pair .BC
  | .DE => s.pair .DE
  | .HL => s.pair .HL
  | .AF => s.readAF

/-! ### Memory (20_memory.md) -/

/-- The byte that a memory holds at an address: the one listed, or what an unlisted address reads as. -/
def Memory.get : Memory → Nat → Byte
  | [], _ => Config.unlistedByte
  | (k, v) :: t, a => if k = a then v else Memory.get t a

/-- The memory with one byte changed, in canonical form: writing what an unlisted address reads as removes the entry. -/
def Memory.write : Memory → Nat → Byte → Memory
  | [], a, v => if v = Config.unlistedByte then [] else [(a, v)]
  | (k, w) :: t, a, v =>
    if a < k then (if v = Config.unlistedByte then (k, w) :: t else (a, v) :: (k, w) :: t)
    else if a = k then (if v = Config.unlistedByte then t else (a, v) :: t)
    else (k, w) :: Memory.write t a v

/-- Canonical from an address on: addresses strictly rising from `lo` and inside the 65,536-byte space of R51, and no entry
equal to what an unlisted address reads as. -/
def Memory.wfFrom : Nat → Memory → Bool
  | _, [] => true
  | lo, (k, v) :: t =>
    decide (lo ≤ k) && decide (k < 65536) && decide (v ≠ Config.unlistedByte) && Memory.wfFrom (k + 1) t

/-- The canonical form of memory. -/
def Memory.wf (m : Memory) : Bool := Memory.wfFrom 0 m

/-- Which read of a step: the opcode byte, the two bytes after it, and the first and second data byte. No instruction makes
two reads of one kind, so a kind names the draw that a volatile read takes (R59). -/
inductive ReadSlot where
  | opcode | imm1 | imm2 | data1 | data2
  deriving DecidableEq, Repr

/-- The number of a read kind among the draws of a step. -/
def ReadSlot.index : ReadSlot → Nat
  | .opcode => 0 | .imm1 => 1 | .imm2 => 2 | .data1 => 3 | .data2 => 4

/-- Is the address a cell of the set S of MEMORY_ORACLE (R59)? -/
def State.isVolatile (s : State) (a : Word) : Bool :=
  s.launch.memoryOracle.covers a.toNat

/-- MemRead(a, 1) of 00_scope.md R11 under MEMORY_ORACLE (R59): a plain cell gives its byte, a volatile one a draw. -/
def State.memRead (s : State) (slot : ReadSlot) (a : Word) : Byte :=
  if s.isVolatile a then Config.volatileByte s.draws slot.index else s.mem.get a.toNat

/-- MemWrite(a, 1, v) of R11 under MEMORY_ORACLE (R59): a plain cell takes the byte. A write to a cell of S may change any
cell of S; the model keeps no contents for those, since every read of one is a draw (log entry 3). -/
def State.memWrite (s : State) (a : Word) (v : Byte) : State :=
  if s.isVolatile a then s else { s with mem := s.mem.write a.toNat v }

/-- MemWrite(a, 2, v) of R11 and R53: the low byte at `a`, then the high byte at `a + 1`, modulo 2^16 (R55). -/
def State.memWrite16 (s : State) (a : Word) (v : Word) : State :=
  (s.memWrite a (lo8 v)).memWrite (a + 1#16) (hi8 v)

/-- The byte that a cell is known to hold, for statements: none for a volatile cell, whose contents the spec leaves open
(R59). -/
def State.peek (s : State) (a : Word) : Option Byte :=
  if s.isVolatile a then none else some (s.mem.get a.toNat)

/-! ### The stack primitives (40_execution_engine.md R110, R111) -/

/-- Push16(v) of R110. -/
def State.push16 (s : State) (v : Word) : State :=
  let s1 := { s with sp := s.sp - 1#16 }
  let s2 := s1.memWrite s1.sp (hi8 v)
  let s3 := { s2 with sp := s2.sp - 1#16 }
  s3.memWrite s3.sp (lo8 v)

/-- Pop16() of R111: the popped word and the state after it. -/
def State.pop16 (s : State) : Word × State :=
  let lo := s.memRead .data1 s.sp
  let s1 := { s with sp := s.sp + 1#16 }
  let hi := s1.memRead .data2 s1.sp
  let s2 := { s1 with sp := s1.sp + 1#16 }
  (cat16 hi lo, s2)

/-! ### The engine (R100, R101, R105 to R107) -/

/-- An Instruction Descriptor: the row number that CYCLES is keyed by, the byte length, the default tick cost and the flag
effects (R95). The microcode is the meaning's own argument. -/
structure Descriptor where
  row    : Nat
  length : Nat
  cost   : Cost
  gate   : Gate
  deriving DecidableEq, Repr

/-- The descriptor of a primary opcode that is no conditional branch: opcode, length, ticks, effect string. -/
def primaryDesc (op length ticks : Nat) (gate : Gate) : Descriptor :=
  { row := op, length := length, cost := Cost.fixed ticks, gate := gate }

/-- The descriptor of a conditional branch: opcode, length, taken and not-taken ticks. No branch changes a flag. -/
def branchDesc (op length taken notTaken : Nat) : Descriptor :=
  { row := op, length := length, cost := { taken := taken, notTaken := notTaken }, gate := gxxxx }

/-- The descriptor of a CB-prefixed instruction: second byte, ticks, effect string. Its length is 2 (R86). -/
def cbDesc (cbop ticks : Nat) (gate : Gate) : Descriptor :=
  { row := 256 + cbop, length := 2, cost := Cost.fixed ticks, gate := gate }

/-- What a microcode leaves: the state after its reads and writes, the flags it proposes, and its outcome (R105): `taken`
(it wrote pc) or sequential. -/
structure MicroResult where
  state : State
  flags : Flags := {}
  taken : Bool := false

/-- A microcode reads and writes registers and memory; it writes neither F nor the clock, which are the engine's. -/
abbrev Microcode := State → MicroResult

/-- The outcome `taken`: pc is the target (R105). -/
def MicroResult.branch (s : State) (target : Word) : MicroResult :=
  { state := { s with pc := target }, taken := true }

/-- Cost(desc, outcome) of R107 under CYCLES: the launch's cost of a row, or the default given (R8). -/
def cycleCost (launch : Launch) (row : Nat) (dflt : Cost) (taken : Bool) : Nat :=
  let c := (launch.cycles.lookup row).getD dflt
  if taken then c.taken else c.notTaken

/-- The engine around one microcode (R100): run it, commit the flags through the gate, charge the cost, and advance pc by
the length unless the branch was taken. -/
def engine (d : Descriptor) (micro : Microcode) (s : State) : StepResult :=
  let r := micro s
  .next { r.state with
    f := commit d.gate s.flags r.flags
    ticks := r.state.ticks + cycleCost s.launch d.row d.cost r.taken
    pc := if r.taken then r.state.pc else r.state.pc + BitVec.ofNat 16 d.length
    draws := r.state.draws + 1 }

/-- The fetch (R100, R103): the opcode byte and the bytes after it, modulo 2^16 (R55), decoded. Every immediate is read
before any write of its instruction (R65), so reading it here reads what the microcode would. -/
def State.fetch (s : State) : Instr :=
  decode3 (s.memRead .opcode s.pc) (s.memRead .imm1 (s.pc + 1#16)) (s.memRead .imm2 (s.pc + 2#16))

/-! ### Faults, interrupts and the halted state (60_exceptions.md, 40_execution_engine.md R108) -/

/-- `raise`: the step ends with FAULT set and commits nothing else (R114, R301, R304). -/
def State.raiseFault (s : State) (r : Fault) : State := { s with fault := some r }

/-- Is Vector(v) enabled (R311)? -/
def State.vectorEnabled (s : State) (v : Word) : Bool :=
  s.fault.isNone && s.ime && s.launch.intVectors.contains v

/-- Vector(v), the interrupt dispatch (R311): what is saved, what is cleared, where pc goes, and its ticks (R312). -/
def State.dispatchInterrupt (s : State) (v : Word) : State :=
  let s1 := { s with ime := false, halted := false }
  let s2 := s1.push16 s1.pc
  { s2 with pc := v, ticks := s2.ticks + s2.launch.intDispatchTicks }

/-- The return beside it (R280, R318): pc from the stack and IME set; the engine charges the ticks. -/
def State.returnFromInterrupt (s : State) : MicroResult :=
  let p := s.pop16
  MicroResult.branch { p.2 with ime := true } p.1

/-- Is Wake enabled (R313)? -/
def State.wakeEnabled (s : State) : Bool := s.fault.isNone && s.halted

/-- Wake (R313): HALTED is cleared and nothing else changes. -/
def State.wakeUp (s : State) : State := { s with halted := false }

/-- The idle step of a halted core (R108): only the clock moves. -/
def State.idle (s : State) : State := { s with ticks := s.ticks + s.launch.haltIdleTicks }

end Sys2Proof.Machine
end

