-- ==== Sys2Proof/Machine/Operands.lean ====
section
/-! DEFINITION. The operand adapters of 40_execution_engine.md R102 to R104. A source and a destination are two types, so
an immediate is no destination, and an 8-bit operand is never a 16-bit one (60_exceptions.md R302). -/

namespace Sys2Proof.Machine

/-- The readable 8-bit operands of R102. An immediate's value is the instruction's own argument. -/
inductive Source8 where
  /-- Register(r). -/
  | reg (r : Reg8)
  /-- MemoryAt(pair). -/
  | atPair (p : Pair)
  /-- MemoryAt(Immediate16): (a16). -/
  | atAddr (addr : Word)
  /-- Immediate8. -/
  | imm (n : Byte)
  /-- IOPort(d8): (a8). -/
  | ioPort (n : Byte)
  /-- IOPort(C): (C). -/
  | ioPortC
  /-- AutoIncrement(HL): (HL+). -/
  | autoInc
  /-- AutoDecrement(HL): (HL-). -/
  | autoDec
  deriving DecidableEq, Repr

/-- The writable 8-bit operands of R102. -/
inductive Dest8 where
  /-- Register(r). -/
  | reg (r : Reg8)
  /-- MemoryAt(pair). -/
  | atPair (p : Pair)
  /-- MemoryAt(Immediate16): (a16). -/
  | atAddr (addr : Word)
  /-- IOPort(d8): (a8). -/
  | ioPort (n : Byte)
  /-- IOPort(C): (C). -/
  | ioPortC
  /-- AutoIncrement(HL): (HL+). -/
  | autoInc
  /-- AutoDecrement(HL): (HL-). -/
  | autoDec
  deriving DecidableEq, Repr

/-- The I/O page address 0xFF00 + offset (R55, R85). -/
def ioAddress (n : Byte) : Word := 0xFF00#16 + n.setWidth 16

/-- Reading an operand (R102): its value and the state after it. An auto-stepping operand takes the pre-mutation address
and steps HL exactly once (R104). -/
def Source8.read (src : Source8) (s : State) : Byte × State :=
  match src with
  | .reg r => (s.reg8 r, s)
  | .atPair p => (s.memRead .data1 (s.pair p), s)
  | .atAddr addr => (s.memRead .data1 addr, s)
  | .imm n => (n, s)
  | .ioPort n => (s.memRead .data1 (ioAddress n), s)
  | .ioPortC => (s.memRead .data1 (ioAddress s.c), s)
  | .autoInc =>
    let addr := s.pair .HL
    let s1 := s.setPair .HL (addr + 1#16)
    (s1.memRead .data1 addr, s1)
  | .autoDec =>
    let addr := s.pair .HL
    let s1 := s.setPair .HL (addr - 1#16)
    (s1.memRead .data1 addr, s1)

/-- Writing an operand (R102, R104). -/
def Dest8.write (dst : Dest8) (v : Byte) (s : State) : State :=
  match dst with
  | .reg r => s.setReg8 r v
  | .atPair p => s.memWrite (s.pair p) v
  | .atAddr addr => s.memWrite addr v
  | .ioPort n => s.memWrite (ioAddress n) v
  | .ioPortC => s.memWrite (ioAddress s.c) v
  | .autoInc =>
    let addr := s.pair .HL
    (s.setPair .HL (addr + 1#16)).memWrite addr v
  | .autoDec =>
    let addr := s.pair .HL
    (s.setPair .HL (addr - 1#16)).memWrite addr v

/-- Reading an operand that is written back (45_rotate_shift_bit.md R231). -/
def readTarget (t : Target8) (s : State) : Byte :=
  match t with
  | .reg r => s.reg8 r
  | .atHL => s.memRead .data1 (s.pair .HL)

/-- Writing it back (R231). -/
def writeTarget (t : Target8) (v : Byte) (s : State) : State :=
  match t with
  | .reg r => s.setReg8 r v
  | .atHL => s.memWrite (s.pair .HL) v

/-- The second operand of an 8-bit ALU instruction (43_alu_8bit.md R174). -/
def readAluSource (src : AluSource) (s : State) : Byte :=
  match src with
  | .reg r => s.reg8 r
  | .atHL => s.memRead .data1 (s.pair .HL)
  | .imm n => n

end Sys2Proof.Machine
end

