-- ==== Sys2Proof/Machine/Alu16.lean ====
section
/-! DEFINITION. The 16-bit arithmetic (44_alu_16bit.md). -/

namespace Sys2Proof.Machine

/-- ADD HL,rr (R220). -/
def microAddHL (p : Pair) : Microcode := fun s =>
  let r := add16 (s.pair .HL) (s.pair p)
  { state := s.setPair .HL r.1, flags := r.2 }

/-- INC rr (R221). -/
def microIncPair (p : Pair) : Microcode := fun s =>
  { state := s.setPair p (s.pair p + 1#16) }

/-- DEC rr (R222). -/
def microDecPair (p : Pair) : Microcode := fun s =>
  { state := s.setPair p (s.pair p - 1#16) }

/-- ADD SP,r8 (R223). -/
def microAddSP (e : Byte) : Microcode := fun s =>
  let r := addSpOffset s.sp e
  { state := s.setPair .SP r.1, flags := r.2 }

/-- INC BC (R221). -/
def execInc_BC (s : State) : StepResult :=
  engine (primaryDesc 0x03 1 8 gxxxx) (microIncPair .BC) s

/-- ADD HL,BC (R220). -/
def execAdd_HL_BC (s : State) : StepResult :=
  engine (primaryDesc 0x09 1 8 gx0HC) (microAddHL .BC) s

/-- DEC BC (R222). -/
def execDec_BC (s : State) : StepResult :=
  engine (primaryDesc 0x0B 1 8 gxxxx) (microDecPair .BC) s

/-- INC DE (R221). -/
def execInc_DE (s : State) : StepResult :=
  engine (primaryDesc 0x13 1 8 gxxxx) (microIncPair .DE) s

/-- ADD HL,DE (R220). -/
def execAdd_HL_DE (s : State) : StepResult :=
  engine (primaryDesc 0x19 1 8 gx0HC) (microAddHL .DE) s

/-- DEC DE (R222). -/
def execDec_DE (s : State) : StepResult :=
  engine (primaryDesc 0x1B 1 8 gxxxx) (microDecPair .DE) s

/-- INC HL (R221). -/
def execInc_HL (s : State) : StepResult :=
  engine (primaryDesc 0x23 1 8 gxxxx) (microIncPair .HL) s

/-- ADD HL,HL (R220). -/
def execAdd_HL_HL (s : State) : StepResult :=
  engine (primaryDesc 0x29 1 8 gx0HC) (microAddHL .HL) s

/-- DEC HL (R222). -/
def execDec_HL (s : State) : StepResult :=
  engine (primaryDesc 0x2B 1 8 gxxxx) (microDecPair .HL) s

/-- INC SP (R221). -/
def execInc_SP (s : State) : StepResult :=
  engine (primaryDesc 0x33 1 8 gxxxx) (microIncPair .SP) s

/-- ADD HL,SP (R220). -/
def execAdd_HL_SP (s : State) : StepResult :=
  engine (primaryDesc 0x39 1 8 gx0HC) (microAddHL .SP) s

/-- DEC SP (R222). -/
def execDec_SP (s : State) : StepResult :=
  engine (primaryDesc 0x3B 1 8 gxxxx) (microDecPair .SP) s

/-- ADD SP,r8 (R223). -/
def execAdd_SP_r8 (e : Byte) (s : State) : StepResult :=
  engine (primaryDesc 0xE8 2 16 g00HC) (microAddSP e) s

end Sys2Proof.Machine
end

