-- ==== Sys2Proof/Machine/Alu8.lean ====
section
/-! DEFINITION. The 8-bit arithmetic and logic (43_alu_8bit.md). -/

namespace Sys2Proof.Machine

/-- ADD, ADC, SUB, SBC, AND, XOR, OR and CP (R175 to R198): the carry is sampled from F0 before the operand is read (R172);
CP discards the result (R196). -/
def microAlu (op : AluOp) (src : AluSource) : Microcode := fun s =>
  let c := s.flags.c
  let r := aluOp op s.launch.adcSbcMode s.a (readAluSource src s) c
  match op with
  | .cp => { state := s, flags := r.2 }
  | _ => { state := s.setReg8 .A r.1, flags := r.2 }

/-- INC r and INC (HL) (R199, R200). -/
def microInc8 (t : Target8) : Microcode := fun s =>
  let r := inc8 (readTarget t s)
  { state := writeTarget t r.1 s, flags := r.2 }

/-- DEC r and DEC (HL) (R201, R202). -/
def microDec8 (t : Target8) : Microcode := fun s =>
  let r := dec8 (readTarget t s)
  { state := writeTarget t r.1 s, flags := r.2 }

/-- DAA (R203). -/
def microDaa : Microcode := fun s =>
  let r := daa8 s.a s.flags
  { state := s.setReg8 .A r.1, flags := r.2 }

/-- CPL (R204). -/
def microCpl : Microcode := fun s =>
  { state := s.setReg8 .A (s.a ^^^ 0xFF#8), flags := { n := true, h := true } }

/-- SCF (R205). -/
def microScf : Microcode := fun s =>
  { state := s, flags := { n := false, h := false, c := true } }

/-- CCF (R206). -/
def microCcf : Microcode := fun s =>
  { state := s, flags := { n := false, h := false, c := !s.flags.c } }

/-- INC B (R199). -/
def execInc_B (s : State) : StepResult :=
  engine (primaryDesc 0x04 1 4 gZ0Hx) (microInc8 (.reg .B)) s

/-- DEC B (R201). -/
def execDec_B (s : State) : StepResult :=
  engine (primaryDesc 0x05 1 4 gZ1Hx) (microDec8 (.reg .B)) s

/-- INC C (R199). -/
def execInc_C (s : State) : StepResult :=
  engine (primaryDesc 0x0C 1 4 gZ0Hx) (microInc8 (.reg .C)) s

/-- DEC C (R201). -/
def execDec_C (s : State) : StepResult :=
  engine (primaryDesc 0x0D 1 4 gZ1Hx) (microDec8 (.reg .C)) s

/-- INC D (R199). -/
def execInc_D (s : State) : StepResult :=
  engine (primaryDesc 0x14 1 4 gZ0Hx) (microInc8 (.reg .D)) s

/-- DEC D (R201). -/
def execDec_D (s : State) : StepResult :=
  engine (primaryDesc 0x15 1 4 gZ1Hx) (microDec8 (.reg .D)) s

/-- INC E (R199). -/
def execInc_E (s : State) : StepResult :=
  engine (primaryDesc 0x1C 1 4 gZ0Hx) (microInc8 (.reg .E)) s

/-- DEC E (R201). -/
def execDec_E (s : State) : StepResult :=
  engine (primaryDesc 0x1D 1 4 gZ1Hx) (microDec8 (.reg .E)) s

/-- INC H (R199). -/
def execInc_H (s : State) : StepResult :=
  engine (primaryDesc 0x24 1 4 gZ0Hx) (microInc8 (.reg .H)) s

/-- DEC H (R201). -/
def execDec_H (s : State) : StepResult :=
  engine (primaryDesc 0x25 1 4 gZ1Hx) (microDec8 (.reg .H)) s

/-- DAA (R203). -/
def execDaa (s : State) : StepResult :=
  engine (primaryDesc 0x27 1 4 gZx0C) microDaa s

/-- INC L (R199). -/
def execInc_L (s : State) : StepResult :=
  engine (primaryDesc 0x2C 1 4 gZ0Hx) (microInc8 (.reg .L)) s

/-- DEC L (R201). -/
def execDec_L (s : State) : StepResult :=
  engine (primaryDesc 0x2D 1 4 gZ1Hx) (microDec8 (.reg .L)) s

/-- CPL (R204). -/
def execCpl (s : State) : StepResult :=
  engine (primaryDesc 0x2F 1 4 gx11x) microCpl s

/-- INC (HL) (R200). -/
def execInc_atHL (s : State) : StepResult :=
  engine (primaryDesc 0x34 1 12 gZ0Hx) (microInc8 .atHL) s

/-- DEC (HL) (R202). -/
def execDec_atHL (s : State) : StepResult :=
  engine (primaryDesc 0x35 1 12 gZ1Hx) (microDec8 .atHL) s

/-- SCF (R205). -/
def execScf (s : State) : StepResult :=
  engine (primaryDesc 0x37 1 4 gx001) microScf s

/-- INC A (R199). -/
def execInc_A (s : State) : StepResult :=
  engine (primaryDesc 0x3C 1 4 gZ0Hx) (microInc8 (.reg .A)) s

/-- DEC A (R201). -/
def execDec_A (s : State) : StepResult :=
  engine (primaryDesc 0x3D 1 4 gZ1Hx) (microDec8 (.reg .A)) s

/-- CCF (R206). -/
def execCcf (s : State) : StepResult :=
  engine (primaryDesc 0x3F 1 4 gx00C) microCcf s

/-- ADD A,B (R175). -/
def execAdd_A_B (s : State) : StepResult :=
  engine (primaryDesc 0x80 1 4 gZ0HC) (microAlu .add (.reg .B)) s

/-- ADD A,C (R175). -/
def execAdd_A_C (s : State) : StepResult :=
  engine (primaryDesc 0x81 1 4 gZ0HC) (microAlu .add (.reg .C)) s

/-- ADD A,D (R175). -/
def execAdd_A_D (s : State) : StepResult :=
  engine (primaryDesc 0x82 1 4 gZ0HC) (microAlu .add (.reg .D)) s

/-- ADD A,E (R175). -/
def execAdd_A_E (s : State) : StepResult :=
  engine (primaryDesc 0x83 1 4 gZ0HC) (microAlu .add (.reg .E)) s

/-- ADD A,H (R175). -/
def execAdd_A_H (s : State) : StepResult :=
  engine (primaryDesc 0x84 1 4 gZ0HC) (microAlu .add (.reg .H)) s

/-- ADD A,L (R175). -/
def execAdd_A_L (s : State) : StepResult :=
  engine (primaryDesc 0x85 1 4 gZ0HC) (microAlu .add (.reg .L)) s

/-- ADD A,(HL) (R176). -/
def execAdd_A_atHL (s : State) : StepResult :=
  engine (primaryDesc 0x86 1 8 gZ0HC) (microAlu .add .atHL) s

/-- ADD A,A (R175). -/
def execAdd_A_A (s : State) : StepResult :=
  engine (primaryDesc 0x87 1 4 gZ0HC) (microAlu .add (.reg .A)) s

/-- ADC A,B (R178). -/
def execAdc_A_B (s : State) : StepResult :=
  engine (primaryDesc 0x88 1 4 gZ0HC) (microAlu .adc (.reg .B)) s

/-- ADC A,C (R178). -/
def execAdc_A_C (s : State) : StepResult :=
  engine (primaryDesc 0x89 1 4 gZ0HC) (microAlu .adc (.reg .C)) s

/-- ADC A,D (R178). -/
def execAdc_A_D (s : State) : StepResult :=
  engine (primaryDesc 0x8A 1 4 gZ0HC) (microAlu .adc (.reg .D)) s

/-- ADC A,E (R178). -/
def execAdc_A_E (s : State) : StepResult :=
  engine (primaryDesc 0x8B 1 4 gZ0HC) (microAlu .adc (.reg .E)) s

/-- ADC A,H (R178). -/
def execAdc_A_H (s : State) : StepResult :=
  engine (primaryDesc 0x8C 1 4 gZ0HC) (microAlu .adc (.reg .H)) s

/-- ADC A,L (R178). -/
def execAdc_A_L (s : State) : StepResult :=
  engine (primaryDesc 0x8D 1 4 gZ0HC) (microAlu .adc (.reg .L)) s

/-- ADC A,(HL) (R179). -/
def execAdc_A_atHL (s : State) : StepResult :=
  engine (primaryDesc 0x8E 1 8 gZ0HC) (microAlu .adc .atHL) s

/-- ADC A,A (R178). -/
def execAdc_A_A (s : State) : StepResult :=
  engine (primaryDesc 0x8F 1 4 gZ0HC) (microAlu .adc (.reg .A)) s

/-- SUB B (R181). -/
def execSub_B (s : State) : StepResult :=
  engine (primaryDesc 0x90 1 4 gZ1HC) (microAlu .sub (.reg .B)) s

/-- SUB C (R181). -/
def execSub_C (s : State) : StepResult :=
  engine (primaryDesc 0x91 1 4 gZ1HC) (microAlu .sub (.reg .C)) s

/-- SUB D (R181). -/
def execSub_D (s : State) : StepResult :=
  engine (primaryDesc 0x92 1 4 gZ1HC) (microAlu .sub (.reg .D)) s

/-- SUB E (R181). -/
def execSub_E (s : State) : StepResult :=
  engine (primaryDesc 0x93 1 4 gZ1HC) (microAlu .sub (.reg .E)) s

/-- SUB H (R181). -/
def execSub_H (s : State) : StepResult :=
  engine (primaryDesc 0x94 1 4 gZ1HC) (microAlu .sub (.reg .H)) s

/-- SUB L (R181). -/
def execSub_L (s : State) : StepResult :=
  engine (primaryDesc 0x95 1 4 gZ1HC) (microAlu .sub (.reg .L)) s

/-- SUB (HL) (R182). -/
def execSub_atHL (s : State) : StepResult :=
  engine (primaryDesc 0x96 1 8 gZ1HC) (microAlu .sub .atHL) s

/-- SUB A (R181). -/
def execSub_A (s : State) : StepResult :=
  engine (primaryDesc 0x97 1 4 gZ1HC) (microAlu .sub (.reg .A)) s

/-- SBC A,B (R184). -/
def execSbc_A_B (s : State) : StepResult :=
  engine (primaryDesc 0x98 1 4 gZ1HC) (microAlu .sbc (.reg .B)) s

/-- SBC A,C (R184). -/
def execSbc_A_C (s : State) : StepResult :=
  engine (primaryDesc 0x99 1 4 gZ1HC) (microAlu .sbc (.reg .C)) s

/-- SBC A,D (R184). -/
def execSbc_A_D (s : State) : StepResult :=
  engine (primaryDesc 0x9A 1 4 gZ1HC) (microAlu .sbc (.reg .D)) s

/-- SBC A,E (R184). -/
def execSbc_A_E (s : State) : StepResult :=
  engine (primaryDesc 0x9B 1 4 gZ1HC) (microAlu .sbc (.reg .E)) s

/-- SBC A,H (R184). -/
def execSbc_A_H (s : State) : StepResult :=
  engine (primaryDesc 0x9C 1 4 gZ1HC) (microAlu .sbc (.reg .H)) s

/-- SBC A,L (R184). -/
def execSbc_A_L (s : State) : StepResult :=
  engine (primaryDesc 0x9D 1 4 gZ1HC) (microAlu .sbc (.reg .L)) s

/-- SBC A,(HL) (R185). -/
def execSbc_A_atHL (s : State) : StepResult :=
  engine (primaryDesc 0x9E 1 8 gZ1HC) (microAlu .sbc .atHL) s

/-- SBC A,A (R184). -/
def execSbc_A_A (s : State) : StepResult :=
  engine (primaryDesc 0x9F 1 4 gZ1HC) (microAlu .sbc (.reg .A)) s

/-- AND B (R187). -/
def execAnd_B (s : State) : StepResult :=
  engine (primaryDesc 0xA0 1 4 gZ010) (microAlu .and (.reg .B)) s

/-- AND C (R187). -/
def execAnd_C (s : State) : StepResult :=
  engine (primaryDesc 0xA1 1 4 gZ010) (microAlu .and (.reg .C)) s

/-- AND D (R187). -/
def execAnd_D (s : State) : StepResult :=
  engine (primaryDesc 0xA2 1 4 gZ010) (microAlu .and (.reg .D)) s

/-- AND E (R187). -/
def execAnd_E (s : State) : StepResult :=
  engine (primaryDesc 0xA3 1 4 gZ010) (microAlu .and (.reg .E)) s

/-- AND H (R187). -/
def execAnd_H (s : State) : StepResult :=
  engine (primaryDesc 0xA4 1 4 gZ010) (microAlu .and (.reg .H)) s

/-- AND L (R187). -/
def execAnd_L (s : State) : StepResult :=
  engine (primaryDesc 0xA5 1 4 gZ010) (microAlu .and (.reg .L)) s

/-- AND (HL) (R188). -/
def execAnd_atHL (s : State) : StepResult :=
  engine (primaryDesc 0xA6 1 8 gZ010) (microAlu .and .atHL) s

/-- AND A (R187). -/
def execAnd_A (s : State) : StepResult :=
  engine (primaryDesc 0xA7 1 4 gZ010) (microAlu .and (.reg .A)) s

/-- XOR B (R190). -/
def execXor_B (s : State) : StepResult :=
  engine (primaryDesc 0xA8 1 4 gZ000) (microAlu .xor (.reg .B)) s

/-- XOR C (R190). -/
def execXor_C (s : State) : StepResult :=
  engine (primaryDesc 0xA9 1 4 gZ000) (microAlu .xor (.reg .C)) s

/-- XOR D (R190). -/
def execXor_D (s : State) : StepResult :=
  engine (primaryDesc 0xAA 1 4 gZ000) (microAlu .xor (.reg .D)) s

/-- XOR E (R190). -/
def execXor_E (s : State) : StepResult :=
  engine (primaryDesc 0xAB 1 4 gZ000) (microAlu .xor (.reg .E)) s

/-- XOR H (R190). -/
def execXor_H (s : State) : StepResult :=
  engine (primaryDesc 0xAC 1 4 gZ000) (microAlu .xor (.reg .H)) s

/-- XOR L (R190). -/
def execXor_L (s : State) : StepResult :=
  engine (primaryDesc 0xAD 1 4 gZ000) (microAlu .xor (.reg .L)) s

/-- XOR (HL) (R191). -/
def execXor_atHL (s : State) : StepResult :=
  engine (primaryDesc 0xAE 1 8 gZ000) (microAlu .xor .atHL) s

/-- XOR A (R190). -/
def execXor_A (s : State) : StepResult :=
  engine (primaryDesc 0xAF 1 4 gZ000) (microAlu .xor (.reg .A)) s

/-- OR B (R193). -/
def execOr_B (s : State) : StepResult :=
  engine (primaryDesc 0xB0 1 4 gZ000) (microAlu .or (.reg .B)) s

/-- OR C (R193). -/
def execOr_C (s : State) : StepResult :=
  engine (primaryDesc 0xB1 1 4 gZ000) (microAlu .or (.reg .C)) s

/-- OR D (R193). -/
def execOr_D (s : State) : StepResult :=
  engine (primaryDesc 0xB2 1 4 gZ000) (microAlu .or (.reg .D)) s

/-- OR E (R193). -/
def execOr_E (s : State) : StepResult :=
  engine (primaryDesc 0xB3 1 4 gZ000) (microAlu .or (.reg .E)) s

/-- OR H (R193). -/
def execOr_H (s : State) : StepResult :=
  engine (primaryDesc 0xB4 1 4 gZ000) (microAlu .or (.reg .H)) s

/-- OR L (R193). -/
def execOr_L (s : State) : StepResult :=
  engine (primaryDesc 0xB5 1 4 gZ000) (microAlu .or (.reg .L)) s

/-- OR (HL) (R194). -/
def execOr_atHL (s : State) : StepResult :=
  engine (primaryDesc 0xB6 1 8 gZ000) (microAlu .or .atHL) s

/-- OR A (R193). -/
def execOr_A (s : State) : StepResult :=
  engine (primaryDesc 0xB7 1 4 gZ000) (microAlu .or (.reg .A)) s

/-- CP B (R196). -/
def execCp_B (s : State) : StepResult :=
  engine (primaryDesc 0xB8 1 4 gZ1HC) (microAlu .cp (.reg .B)) s

/-- CP C (R196). -/
def execCp_C (s : State) : StepResult :=
  engine (primaryDesc 0xB9 1 4 gZ1HC) (microAlu .cp (.reg .C)) s

/-- CP D (R196). -/
def execCp_D (s : State) : StepResult :=
  engine (primaryDesc 0xBA 1 4 gZ1HC) (microAlu .cp (.reg .D)) s

/-- CP E (R196). -/
def execCp_E (s : State) : StepResult :=
  engine (primaryDesc 0xBB 1 4 gZ1HC) (microAlu .cp (.reg .E)) s

/-- CP H (R196). -/
def execCp_H (s : State) : StepResult :=
  engine (primaryDesc 0xBC 1 4 gZ1HC) (microAlu .cp (.reg .H)) s

/-- CP L (R196). -/
def execCp_L (s : State) : StepResult :=
  engine (primaryDesc 0xBD 1 4 gZ1HC) (microAlu .cp (.reg .L)) s

/-- CP (HL) (R197). -/
def execCp_atHL (s : State) : StepResult :=
  engine (primaryDesc 0xBE 1 8 gZ1HC) (microAlu .cp .atHL) s

/-- CP A (R196). -/
def execCp_A (s : State) : StepResult :=
  engine (primaryDesc 0xBF 1 4 gZ1HC) (microAlu .cp (.reg .A)) s

/-- ADD A,d8 (R177). -/
def execAdd_A_d8 (n : Byte) (s : State) : StepResult :=
  engine (primaryDesc 0xC6 2 8 gZ0HC) (microAlu .add (.imm n)) s

/-- ADC A,d8 (R180). -/
def execAdc_A_d8 (n : Byte) (s : State) : StepResult :=
  engine (primaryDesc 0xCE 2 8 gZ0HC) (microAlu .adc (.imm n)) s

/-- SUB d8 (R183). -/
def execSub_d8 (n : Byte) (s : State) : StepResult :=
  engine (primaryDesc 0xD6 2 8 gZ1HC) (microAlu .sub (.imm n)) s

/-- SBC A,d8 (R186). -/
def execSbc_A_d8 (n : Byte) (s : State) : StepResult :=
  engine (primaryDesc 0xDE 2 8 gZ1HC) (microAlu .sbc (.imm n)) s

/-- AND d8 (R189). -/
def execAnd_d8 (n : Byte) (s : State) : StepResult :=
  engine (primaryDesc 0xE6 2 8 gZ010) (microAlu .and (.imm n)) s

/-- XOR d8 (R192). -/
def execXor_d8 (n : Byte) (s : State) : StepResult :=
  engine (primaryDesc 0xEE 2 8 gZ000) (microAlu .xor (.imm n)) s

/-- OR d8 (R195). -/
def execOr_d8 (n : Byte) (s : State) : StepResult :=
  engine (primaryDesc 0xF6 2 8 gZ000) (microAlu .or (.imm n)) s

/-- CP d8 (R198). -/
def execCp_d8 (n : Byte) (s : State) : StepResult :=
  engine (primaryDesc 0xFE 2 8 gZ1HC) (microAlu .cp (.imm n)) s

end Sys2Proof.Machine
end

