-- ==== Sys2Proof/Machine/ControlFlow.lean ====
section
/-! DEFINITION. Control transfer (46_control_flow.md). A taken branch writes pc itself; one whose condition fails writes nothing. -/

namespace Sys2Proof.Machine

/-- JP a16 (R271). -/
def microJp (addr : Word) : Microcode := fun s => MicroResult.branch s addr

/-- The target of a relative jump: pc + 2 + sext_16(n), modulo 2^16 (R274). -/
def jrTarget (pc : Word) (e : Byte) : Word := pc + 2#16 + sext16 e

/-- JP (HL) (R273): the target is the value of HL, not a word read from memory. -/
def microJpHL : Microcode := fun s => MicroResult.branch s (s.pair .HL)

/-- JR r8 (R274). -/
def microJr (e : Byte) : Microcode := fun s => MicroResult.branch s (jrTarget s.pc e)

/-- CALL a16 (R276): the return address is the one after the three bytes of the instruction. -/
def microCall (addr : Word) : Microcode := fun s =>
  MicroResult.branch (s.push16 (s.pc + 3#16)) addr

/-- RET (R278). -/
def microRet : Microcode := fun s =>
  let p := s.pop16
  MicroResult.branch p.2 p.1

/-- RETI (R280). -/
def microReti : Microcode := fun s => s.returnFromInterrupt

/-- RST t (R281): push the address after the one byte, and jump to t * 8. -/
def microRst (t : Index8) : Microcode := fun s =>
  MicroResult.branch (s.push16 (s.pc + 1#16)) (BitVec.ofNat 16 (t.toNat * 8))

/-- A conditional branch (R105, R270): the branch's own microcode when the condition holds on F0, nothing otherwise. -/
def microIf (cc : Cond) (branch : Microcode) : Microcode := fun s =>
  if condHolds cc s.flags then branch s else { state := s }

/-- JP cc,a16 (R272). -/
def microJpCond (cc : Cond) (addr : Word) : Microcode := microIf cc (microJp addr)

/-- JR cc,r8 (R275). -/
def microJrCond (cc : Cond) (e : Byte) : Microcode := microIf cc (microJr e)

/-- CALL cc,a16 (R277). -/
def microCallCond (cc : Cond) (addr : Word) : Microcode := microIf cc (microCall addr)

/-- RET cc (R279). -/
def microRetCond (cc : Cond) : Microcode := microIf cc microRet

/-- JR r8 (R274). -/
def execJr_r8 (e : Byte) (s : State) : StepResult :=
  engine (primaryDesc 0x18 2 12 gxxxx) (microJr e) s

/-- JR NZ,r8 (R275). -/
def execJr_NZ_r8 (e : Byte) (s : State) : StepResult :=
  engine (branchDesc 0x20 2 12 8) (microJrCond .NZ e) s

/-- JR Z,r8 (R275). -/
def execJr_Z_r8 (e : Byte) (s : State) : StepResult :=
  engine (branchDesc 0x28 2 12 8) (microJrCond .Z e) s

/-- JR NC,r8 (R275). -/
def execJr_NC_r8 (e : Byte) (s : State) : StepResult :=
  engine (branchDesc 0x30 2 12 8) (microJrCond .NC e) s

/-- JR C,r8 (R275). -/
def execJr_C_r8 (e : Byte) (s : State) : StepResult :=
  engine (branchDesc 0x38 2 12 8) (microJrCond .C e) s

/-- RET NZ (R279). -/
def execRet_NZ (s : State) : StepResult :=
  engine (branchDesc 0xC0 1 20 8) (microRetCond .NZ) s

/-- JP NZ,a16 (R272). -/
def execJp_NZ_a16 (addr : Word) (s : State) : StepResult :=
  engine (branchDesc 0xC2 3 16 12) (microJpCond .NZ addr) s

/-- JP a16 (R271). -/
def execJp_a16 (addr : Word) (s : State) : StepResult :=
  engine (primaryDesc 0xC3 3 16 gxxxx) (microJp addr) s

/-- CALL NZ,a16 (R277). -/
def execCall_NZ_a16 (addr : Word) (s : State) : StepResult :=
  engine (branchDesc 0xC4 3 24 12) (microCallCond .NZ addr) s

/-- RST 00H (R281). -/
def execRst_00H (s : State) : StepResult :=
  engine (primaryDesc 0xC7 1 16 gxxxx) (microRst .i0) s

/-- RET Z (R279). -/
def execRet_Z (s : State) : StepResult :=
  engine (branchDesc 0xC8 1 20 8) (microRetCond .Z) s

/-- RET (R278). -/
def execRet (s : State) : StepResult :=
  engine (primaryDesc 0xC9 1 16 gxxxx) microRet s

/-- JP Z,a16 (R272). -/
def execJp_Z_a16 (addr : Word) (s : State) : StepResult :=
  engine (branchDesc 0xCA 3 16 12) (microJpCond .Z addr) s

/-- CALL Z,a16 (R277). -/
def execCall_Z_a16 (addr : Word) (s : State) : StepResult :=
  engine (branchDesc 0xCC 3 24 12) (microCallCond .Z addr) s

/-- CALL a16 (R276). -/
def execCall_a16 (addr : Word) (s : State) : StepResult :=
  engine (primaryDesc 0xCD 3 24 gxxxx) (microCall addr) s

/-- RST 08H (R281). -/
def execRst_08H (s : State) : StepResult :=
  engine (primaryDesc 0xCF 1 16 gxxxx) (microRst .i1) s

/-- RET NC (R279). -/
def execRet_NC (s : State) : StepResult :=
  engine (branchDesc 0xD0 1 20 8) (microRetCond .NC) s

/-- JP NC,a16 (R272). -/
def execJp_NC_a16 (addr : Word) (s : State) : StepResult :=
  engine (branchDesc 0xD2 3 16 12) (microJpCond .NC addr) s

/-- CALL NC,a16 (R277). -/
def execCall_NC_a16 (addr : Word) (s : State) : StepResult :=
  engine (branchDesc 0xD4 3 24 12) (microCallCond .NC addr) s

/-- RST 10H (R281). -/
def execRst_10H (s : State) : StepResult :=
  engine (primaryDesc 0xD7 1 16 gxxxx) (microRst .i2) s

/-- RET C (R279). -/
def execRet_C (s : State) : StepResult :=
  engine (branchDesc 0xD8 1 20 8) (microRetCond .C) s

/-- RETI (R280). -/
def execReti (s : State) : StepResult :=
  engine (primaryDesc 0xD9 1 16 gxxxx) microReti s

/-- JP C,a16 (R272). -/
def execJp_C_a16 (addr : Word) (s : State) : StepResult :=
  engine (branchDesc 0xDA 3 16 12) (microJpCond .C addr) s

/-- CALL C,a16 (R277). -/
def execCall_C_a16 (addr : Word) (s : State) : StepResult :=
  engine (branchDesc 0xDC 3 24 12) (microCallCond .C addr) s

/-- RST 18H (R281). -/
def execRst_18H (s : State) : StepResult :=
  engine (primaryDesc 0xDF 1 16 gxxxx) (microRst .i3) s

/-- RST 20H (R281). -/
def execRst_20H (s : State) : StepResult :=
  engine (primaryDesc 0xE7 1 16 gxxxx) (microRst .i4) s

/-- JP (HL) (R273). -/
def execJp_HL (s : State) : StepResult :=
  engine (primaryDesc 0xE9 1 4 gxxxx) microJpHL s

/-- RST 28H (R281). -/
def execRst_28H (s : State) : StepResult :=
  engine (primaryDesc 0xEF 1 16 gxxxx) (microRst .i5) s

/-- RST 30H (R281). -/
def execRst_30H (s : State) : StepResult :=
  engine (primaryDesc 0xF7 1 16 gxxxx) (microRst .i6) s

/-- RST 38H (R281). -/
def execRst_38H (s : State) : StepResult :=
  engine (primaryDesc 0xFF 1 16 gxxxx) (microRst .i7) s

end Sys2Proof.Machine
end

