-- ==== Sys2Proof/Machine/Loads16.lean ====
section
/-! DEFINITION. The 16-bit loads and the stack operations (42_loads_16bit_stack.md). -/

namespace Sys2Proof.Machine

/-- LD rr,d16 (R150). -/
def microLdPairImm (p : Pair) (nn : Word) : Microcode := fun s =>
  { state := s.setPair p nn }

/-- LD (a16),SP (R151). -/
def microStoreSP (addr : Word) : Microcode := fun s =>
  { state := s.memWrite16 addr s.sp }

/-- LD SP,HL (R152). -/
def microLdSPHL : Microcode := fun s =>
  { state := s.setPair .SP (s.pair .HL) }

/-- LD HL,SP+r8 (R153). -/
def microLdHLSP (e : Byte) : Microcode := fun s =>
  let r := addSpOffset s.sp e
  { state := s.setPair .HL r.1, flags := r.2 }

/-- PUSH rr (R154). -/
def microPush (p : StackPair) : Microcode := fun s =>
  { state := s.push16 (s.stackPair p) }

/-- POP rr for BC, DE and HL (R155). -/
def microPop (p : Pair) : Microcode := fun s =>
  let r := s.pop16
  { state := r.2.setPair p r.1 }

/-- POP AF (R156): A from the high byte, the four flags proposed from the low one. -/
def microPopAF : Microcode := fun s =>
  let r := s.pop16
  { state := r.2.setReg8 .A (hi8 r.1), flags := Flags.ofByte (lo8 r.1) }

/-- LD BC,d16 (R150). -/
def execLd_BC_d16 (nn : Word) (s : State) : StepResult :=
  engine (primaryDesc 0x01 3 12 gxxxx) (microLdPairImm .BC nn) s

/-- LD (a16),SP (R151). -/
def execLd_atA16_SP (addr : Word) (s : State) : StepResult :=
  engine (primaryDesc 0x08 3 20 gxxxx) (microStoreSP addr) s

/-- LD DE,d16 (R150). -/
def execLd_DE_d16 (nn : Word) (s : State) : StepResult :=
  engine (primaryDesc 0x11 3 12 gxxxx) (microLdPairImm .DE nn) s

/-- LD HL,d16 (R150). -/
def execLd_HL_d16 (nn : Word) (s : State) : StepResult :=
  engine (primaryDesc 0x21 3 12 gxxxx) (microLdPairImm .HL nn) s

/-- LD SP,d16 (R150). -/
def execLd_SP_d16 (nn : Word) (s : State) : StepResult :=
  engine (primaryDesc 0x31 3 12 gxxxx) (microLdPairImm .SP nn) s

/-- POP BC (R155). -/
def execPop_BC (s : State) : StepResult :=
  engine (primaryDesc 0xC1 1 12 gxxxx) (microPop .BC) s

/-- PUSH BC (R154). -/
def execPush_BC (s : State) : StepResult :=
  engine (primaryDesc 0xC5 1 16 gxxxx) (microPush .BC) s

/-- POP DE (R155). -/
def execPop_DE (s : State) : StepResult :=
  engine (primaryDesc 0xD1 1 12 gxxxx) (microPop .DE) s

/-- PUSH DE (R154). -/
def execPush_DE (s : State) : StepResult :=
  engine (primaryDesc 0xD5 1 16 gxxxx) (microPush .DE) s

/-- POP HL (R155). -/
def execPop_HL (s : State) : StepResult :=
  engine (primaryDesc 0xE1 1 12 gxxxx) (microPop .HL) s

/-- PUSH HL (R154). -/
def execPush_HL (s : State) : StepResult :=
  engine (primaryDesc 0xE5 1 16 gxxxx) (microPush .HL) s

/-- POP AF (R156). -/
def execPop_AF (s : State) : StepResult :=
  engine (primaryDesc 0xF1 1 12 gZNHC) microPopAF s

/-- PUSH AF (R154). -/
def execPush_AF (s : State) : StepResult :=
  engine (primaryDesc 0xF5 1 16 gxxxx) (microPush .AF) s

/-- LD HL,SP+r8 (R153). -/
def execLd_HL_SPr8 (e : Byte) (s : State) : StepResult :=
  engine (primaryDesc 0xF8 2 12 g00HC) (microLdHLSP e) s

/-- LD SP,HL (R152). -/
def execLd_SP_HL (s : State) : StepResult :=
  engine (primaryDesc 0xF9 1 8 gxxxx) microLdSPHL s

end Sys2Proof.Machine
end

