-- ==== Sys2Proof/Machine/Loads8.lean ====
section
/-! DEFINITION. The 8-bit loads and stores (41_loads_8bit.md): every one is a read of one operand and a write of another. -/

namespace Sys2Proof.Machine

/-- LD dst,src: read the source, then write the destination (R120 to R138, by the adapters of R102 to R104). -/
def microLd8 (dst : Dest8) (src : Source8) : Microcode := fun s =>
  let r := src.read s
  { state := dst.write r.1 r.2 }

/-- LD (BC),A (R127). -/
def execLd_atBC_A (s : State) : StepResult :=
  engine (primaryDesc 0x02 1 8 gxxxx) (microLd8 (.atPair .BC) (.reg .A)) s

/-- LD B,d8 (R121). -/
def execLd_B_d8 (n : Byte) (s : State) : StepResult :=
  engine (primaryDesc 0x06 2 8 gxxxx) (microLd8 (.reg .B) (.imm n)) s

/-- LD A,(BC) (R125). -/
def execLd_A_atBC (s : State) : StepResult :=
  engine (primaryDesc 0x0A 1 8 gxxxx) (microLd8 (.reg .A) (.atPair .BC)) s

/-- LD C,d8 (R121). -/
def execLd_C_d8 (n : Byte) (s : State) : StepResult :=
  engine (primaryDesc 0x0E 2 8 gxxxx) (microLd8 (.reg .C) (.imm n)) s

/-- LD (DE),A (R128). -/
def execLd_atDE_A (s : State) : StepResult :=
  engine (primaryDesc 0x12 1 8 gxxxx) (microLd8 (.atPair .DE) (.reg .A)) s

/-- LD D,d8 (R121). -/
def execLd_D_d8 (n : Byte) (s : State) : StepResult :=
  engine (primaryDesc 0x16 2 8 gxxxx) (microLd8 (.reg .D) (.imm n)) s

/-- LD A,(DE) (R126). -/
def execLd_A_atDE (s : State) : StepResult :=
  engine (primaryDesc 0x1A 1 8 gxxxx) (microLd8 (.reg .A) (.atPair .DE)) s

/-- LD E,d8 (R121). -/
def execLd_E_d8 (n : Byte) (s : State) : StepResult :=
  engine (primaryDesc 0x1E 2 8 gxxxx) (microLd8 (.reg .E) (.imm n)) s

/-- LD (HL+),A (R135). -/
def execLd_atHLinc_A (s : State) : StepResult :=
  engine (primaryDesc 0x22 1 8 gxxxx) (microLd8 .autoInc (.reg .A)) s

/-- LD H,d8 (R121). -/
def execLd_H_d8 (n : Byte) (s : State) : StepResult :=
  engine (primaryDesc 0x26 2 8 gxxxx) (microLd8 (.reg .H) (.imm n)) s

/-- LD A,(HL+) (R137). -/
def execLd_A_atHLinc (s : State) : StepResult :=
  engine (primaryDesc 0x2A 1 8 gxxxx) (microLd8 (.reg .A) .autoInc) s

/-- LD L,d8 (R121). -/
def execLd_L_d8 (n : Byte) (s : State) : StepResult :=
  engine (primaryDesc 0x2E 2 8 gxxxx) (microLd8 (.reg .L) (.imm n)) s

/-- LD (HL-),A (R136). -/
def execLd_atHLdec_A (s : State) : StepResult :=
  engine (primaryDesc 0x32 1 8 gxxxx) (microLd8 .autoDec (.reg .A)) s

/-- LD (HL),d8 (R124). -/
def execLd_atHL_d8 (n : Byte) (s : State) : StepResult :=
  engine (primaryDesc 0x36 2 12 gxxxx) (microLd8 (.atPair .HL) (.imm n)) s

/-- LD A,(HL-) (R138). -/
def execLd_A_atHLdec (s : State) : StepResult :=
  engine (primaryDesc 0x3A 1 8 gxxxx) (microLd8 (.reg .A) .autoDec) s

/-- LD A,d8 (R121). -/
def execLd_A_d8 (n : Byte) (s : State) : StepResult :=
  engine (primaryDesc 0x3E 2 8 gxxxx) (microLd8 (.reg .A) (.imm n)) s

/-- LD B,B (R120). -/
def execLd_B_B (s : State) : StepResult :=
  engine (primaryDesc 0x40 1 4 gxxxx) (microLd8 (.reg .B) (.reg .B)) s

/-- LD B,C (R120). -/
def execLd_B_C (s : State) : StepResult :=
  engine (primaryDesc 0x41 1 4 gxxxx) (microLd8 (.reg .B) (.reg .C)) s

/-- LD B,D (R120). -/
def execLd_B_D (s : State) : StepResult :=
  engine (primaryDesc 0x42 1 4 gxxxx) (microLd8 (.reg .B) (.reg .D)) s

/-- LD B,E (R120). -/
def execLd_B_E (s : State) : StepResult :=
  engine (primaryDesc 0x43 1 4 gxxxx) (microLd8 (.reg .B) (.reg .E)) s

/-- LD B,H (R120). -/
def execLd_B_H (s : State) : StepResult :=
  engine (primaryDesc 0x44 1 4 gxxxx) (microLd8 (.reg .B) (.reg .H)) s

/-- LD B,L (R120). -/
def execLd_B_L (s : State) : StepResult :=
  engine (primaryDesc 0x45 1 4 gxxxx) (microLd8 (.reg .B) (.reg .L)) s

/-- LD B,(HL) (R122). -/
def execLd_B_atHL (s : State) : StepResult :=
  engine (primaryDesc 0x46 1 8 gxxxx) (microLd8 (.reg .B) (.atPair .HL)) s

/-- LD B,A (R120). -/
def execLd_B_A (s : State) : StepResult :=
  engine (primaryDesc 0x47 1 4 gxxxx) (microLd8 (.reg .B) (.reg .A)) s

/-- LD C,B (R120). -/
def execLd_C_B (s : State) : StepResult :=
  engine (primaryDesc 0x48 1 4 gxxxx) (microLd8 (.reg .C) (.reg .B)) s

/-- LD C,C (R120). -/
def execLd_C_C (s : State) : StepResult :=
  engine (primaryDesc 0x49 1 4 gxxxx) (microLd8 (.reg .C) (.reg .C)) s

/-- LD C,D (R120). -/
def execLd_C_D (s : State) : StepResult :=
  engine (primaryDesc 0x4A 1 4 gxxxx) (microLd8 (.reg .C) (.reg .D)) s

/-- LD C,E (R120). -/
def execLd_C_E (s : State) : StepResult :=
  engine (primaryDesc 0x4B 1 4 gxxxx) (microLd8 (.reg .C) (.reg .E)) s

/-- LD C,H (R120). -/
def execLd_C_H (s : State) : StepResult :=
  engine (primaryDesc 0x4C 1 4 gxxxx) (microLd8 (.reg .C) (.reg .H)) s

/-- LD C,L (R120). -/
def execLd_C_L (s : State) : StepResult :=
  engine (primaryDesc 0x4D 1 4 gxxxx) (microLd8 (.reg .C) (.reg .L)) s

/-- LD C,(HL) (R122). -/
def execLd_C_atHL (s : State) : StepResult :=
  engine (primaryDesc 0x4E 1 8 gxxxx) (microLd8 (.reg .C) (.atPair .HL)) s

/-- LD C,A (R120). -/
def execLd_C_A (s : State) : StepResult :=
  engine (primaryDesc 0x4F 1 4 gxxxx) (microLd8 (.reg .C) (.reg .A)) s

/-- LD D,B (R120). -/
def execLd_D_B (s : State) : StepResult :=
  engine (primaryDesc 0x50 1 4 gxxxx) (microLd8 (.reg .D) (.reg .B)) s

/-- LD D,C (R120). -/
def execLd_D_C (s : State) : StepResult :=
  engine (primaryDesc 0x51 1 4 gxxxx) (microLd8 (.reg .D) (.reg .C)) s

/-- LD D,D (R120). -/
def execLd_D_D (s : State) : StepResult :=
  engine (primaryDesc 0x52 1 4 gxxxx) (microLd8 (.reg .D) (.reg .D)) s

/-- LD D,E (R120). -/
def execLd_D_E (s : State) : StepResult :=
  engine (primaryDesc 0x53 1 4 gxxxx) (microLd8 (.reg .D) (.reg .E)) s

/-- LD D,H (R120). -/
def execLd_D_H (s : State) : StepResult :=
  engine (primaryDesc 0x54 1 4 gxxxx) (microLd8 (.reg .D) (.reg .H)) s

/-- LD D,L (R120). -/
def execLd_D_L (s : State) : StepResult :=
  engine (primaryDesc 0x55 1 4 gxxxx) (microLd8 (.reg .D) (.reg .L)) s

/-- LD D,(HL) (R122). -/
def execLd_D_atHL (s : State) : StepResult :=
  engine (primaryDesc 0x56 1 8 gxxxx) (microLd8 (.reg .D) (.atPair .HL)) s

/-- LD D,A (R120). -/
def execLd_D_A (s : State) : StepResult :=
  engine (primaryDesc 0x57 1 4 gxxxx) (microLd8 (.reg .D) (.reg .A)) s

/-- LD E,B (R120). -/
def execLd_E_B (s : State) : StepResult :=
  engine (primaryDesc 0x58 1 4 gxxxx) (microLd8 (.reg .E) (.reg .B)) s

/-- LD E,C (R120). -/
def execLd_E_C (s : State) : StepResult :=
  engine (primaryDesc 0x59 1 4 gxxxx) (microLd8 (.reg .E) (.reg .C)) s

/-- LD E,D (R120). -/
def execLd_E_D (s : State) : StepResult :=
  engine (primaryDesc 0x5A 1 4 gxxxx) (microLd8 (.reg .E) (.reg .D)) s

/-- LD E,E (R120). -/
def execLd_E_E (s : State) : StepResult :=
  engine (primaryDesc 0x5B 1 4 gxxxx) (microLd8 (.reg .E) (.reg .E)) s

/-- LD E,H (R120). -/
def execLd_E_H (s : State) : StepResult :=
  engine (primaryDesc 0x5C 1 4 gxxxx) (microLd8 (.reg .E) (.reg .H)) s

/-- LD E,L (R120). -/
def execLd_E_L (s : State) : StepResult :=
  engine (primaryDesc 0x5D 1 4 gxxxx) (microLd8 (.reg .E) (.reg .L)) s

/-- LD E,(HL) (R122). -/
def execLd_E_atHL (s : State) : StepResult :=
  engine (primaryDesc 0x5E 1 8 gxxxx) (microLd8 (.reg .E) (.atPair .HL)) s

/-- LD E,A (R120). -/
def execLd_E_A (s : State) : StepResult :=
  engine (primaryDesc 0x5F 1 4 gxxxx) (microLd8 (.reg .E) (.reg .A)) s

/-- LD H,B (R120). -/
def execLd_H_B (s : State) : StepResult :=
  engine (primaryDesc 0x60 1 4 gxxxx) (microLd8 (.reg .H) (.reg .B)) s

/-- LD H,C (R120). -/
def execLd_H_C (s : State) : StepResult :=
  engine (primaryDesc 0x61 1 4 gxxxx) (microLd8 (.reg .H) (.reg .C)) s

/-- LD H,D (R120). -/
def execLd_H_D (s : State) : StepResult :=
  engine (primaryDesc 0x62 1 4 gxxxx) (microLd8 (.reg .H) (.reg .D)) s

/-- LD H,E (R120). -/
def execLd_H_E (s : State) : StepResult :=
  engine (primaryDesc 0x63 1 4 gxxxx) (microLd8 (.reg .H) (.reg .E)) s

/-- LD H,H (R120). -/
def execLd_H_H (s : State) : StepResult :=
  engine (primaryDesc 0x64 1 4 gxxxx) (microLd8 (.reg .H) (.reg .H)) s

/-- LD H,L (R120). -/
def execLd_H_L (s : State) : StepResult :=
  engine (primaryDesc 0x65 1 4 gxxxx) (microLd8 (.reg .H) (.reg .L)) s

/-- LD H,(HL) (R122). -/
def execLd_H_atHL (s : State) : StepResult :=
  engine (primaryDesc 0x66 1 8 gxxxx) (microLd8 (.reg .H) (.atPair .HL)) s

/-- LD H,A (R120). -/
def execLd_H_A (s : State) : StepResult :=
  engine (primaryDesc 0x67 1 4 gxxxx) (microLd8 (.reg .H) (.reg .A)) s

/-- LD L,B (R120). -/
def execLd_L_B (s : State) : StepResult :=
  engine (primaryDesc 0x68 1 4 gxxxx) (microLd8 (.reg .L) (.reg .B)) s

/-- LD L,C (R120). -/
def execLd_L_C (s : State) : StepResult :=
  engine (primaryDesc 0x69 1 4 gxxxx) (microLd8 (.reg .L) (.reg .C)) s

/-- LD L,D (R120). -/
def execLd_L_D (s : State) : StepResult :=
  engine (primaryDesc 0x6A 1 4 gxxxx) (microLd8 (.reg .L) (.reg .D)) s

/-- LD L,E (R120). -/
def execLd_L_E (s : State) : StepResult :=
  engine (primaryDesc 0x6B 1 4 gxxxx) (microLd8 (.reg .L) (.reg .E)) s

/-- LD L,H (R120). -/
def execLd_L_H (s : State) : StepResult :=
  engine (primaryDesc 0x6C 1 4 gxxxx) (microLd8 (.reg .L) (.reg .H)) s

/-- LD L,L (R120). -/
def execLd_L_L (s : State) : StepResult :=
  engine (primaryDesc 0x6D 1 4 gxxxx) (microLd8 (.reg .L) (.reg .L)) s

/-- LD L,(HL) (R122). -/
def execLd_L_atHL (s : State) : StepResult :=
  engine (primaryDesc 0x6E 1 8 gxxxx) (microLd8 (.reg .L) (.atPair .HL)) s

/-- LD L,A (R120). -/
def execLd_L_A (s : State) : StepResult :=
  engine (primaryDesc 0x6F 1 4 gxxxx) (microLd8 (.reg .L) (.reg .A)) s

/-- LD (HL),B (R123). -/
def execLd_atHL_B (s : State) : StepResult :=
  engine (primaryDesc 0x70 1 8 gxxxx) (microLd8 (.atPair .HL) (.reg .B)) s

/-- LD (HL),C (R123). -/
def execLd_atHL_C (s : State) : StepResult :=
  engine (primaryDesc 0x71 1 8 gxxxx) (microLd8 (.atPair .HL) (.reg .C)) s

/-- LD (HL),D (R123). -/
def execLd_atHL_D (s : State) : StepResult :=
  engine (primaryDesc 0x72 1 8 gxxxx) (microLd8 (.atPair .HL) (.reg .D)) s

/-- LD (HL),E (R123). -/
def execLd_atHL_E (s : State) : StepResult :=
  engine (primaryDesc 0x73 1 8 gxxxx) (microLd8 (.atPair .HL) (.reg .E)) s

/-- LD (HL),H (R123). -/
def execLd_atHL_H (s : State) : StepResult :=
  engine (primaryDesc 0x74 1 8 gxxxx) (microLd8 (.atPair .HL) (.reg .H)) s

/-- LD (HL),L (R123). -/
def execLd_atHL_L (s : State) : StepResult :=
  engine (primaryDesc 0x75 1 8 gxxxx) (microLd8 (.atPair .HL) (.reg .L)) s

/-- LD (HL),A (R123). -/
def execLd_atHL_A (s : State) : StepResult :=
  engine (primaryDesc 0x77 1 8 gxxxx) (microLd8 (.atPair .HL) (.reg .A)) s

/-- LD A,B (R120). -/
def execLd_A_B (s : State) : StepResult :=
  engine (primaryDesc 0x78 1 4 gxxxx) (microLd8 (.reg .A) (.reg .B)) s

/-- LD A,C (R120). -/
def execLd_A_C (s : State) : StepResult :=
  engine (primaryDesc 0x79 1 4 gxxxx) (microLd8 (.reg .A) (.reg .C)) s

/-- LD A,D (R120). -/
def execLd_A_D (s : State) : StepResult :=
  engine (primaryDesc 0x7A 1 4 gxxxx) (microLd8 (.reg .A) (.reg .D)) s

/-- LD A,E (R120). -/
def execLd_A_E (s : State) : StepResult :=
  engine (primaryDesc 0x7B 1 4 gxxxx) (microLd8 (.reg .A) (.reg .E)) s

/-- LD A,H (R120). -/
def execLd_A_H (s : State) : StepResult :=
  engine (primaryDesc 0x7C 1 4 gxxxx) (microLd8 (.reg .A) (.reg .H)) s

/-- LD A,L (R120). -/
def execLd_A_L (s : State) : StepResult :=
  engine (primaryDesc 0x7D 1 4 gxxxx) (microLd8 (.reg .A) (.reg .L)) s

/-- LD A,(HL) (R122). -/
def execLd_A_atHL (s : State) : StepResult :=
  engine (primaryDesc 0x7E 1 8 gxxxx) (microLd8 (.reg .A) (.atPair .HL)) s

/-- LD A,A (R120). -/
def execLd_A_A (s : State) : StepResult :=
  engine (primaryDesc 0x7F 1 4 gxxxx) (microLd8 (.reg .A) (.reg .A)) s

/-- LDH (a8),A (R132). -/
def execLdh_atA8_A (n : Byte) (s : State) : StepResult :=
  engine (primaryDesc 0xE0 2 12 gxxxx) (microLd8 (.ioPort n) (.reg .A)) s

/-- LD (C),A (R134). -/
def execLd_atC_A (s : State) : StepResult :=
  engine (primaryDesc 0xE2 1 8 gxxxx) (microLd8 .ioPortC (.reg .A)) s

/-- LD (a16),A (R130). -/
def execLd_atA16_A (addr : Word) (s : State) : StepResult :=
  engine (primaryDesc 0xEA 3 16 gxxxx) (microLd8 (.atAddr addr) (.reg .A)) s

/-- LDH A,(a8) (R131). -/
def execLdh_A_atA8 (n : Byte) (s : State) : StepResult :=
  engine (primaryDesc 0xF0 2 12 gxxxx) (microLd8 (.reg .A) (.ioPort n)) s

/-- LD A,(C) (R133). -/
def execLd_A_atC (s : State) : StepResult :=
  engine (primaryDesc 0xF2 1 8 gxxxx) (microLd8 (.reg .A) .ioPortC) s

/-- LD A,(a16) (R129). -/
def execLd_A_atA16 (addr : Word) (s : State) : StepResult :=
  engine (primaryDesc 0xFA 3 16 gxxxx) (microLd8 (.reg .A) (.atAddr addr)) s

end Sys2Proof.Machine
end

