-- ==== Sys2Proof/Machine/RotateShiftBit.lean ====
section
/-! DEFINITION. The accumulator rotates and the CB-prefixed rotates, shifts and bit operations (45_rotate_shift_bit.md). -/

namespace Sys2Proof.Machine

/-- RLCA, RRCA, RLA and RRA (R232 to R235): Z is proposed 0, and the gate forces it. -/
def microRotA (op : RotOp) : Microcode := fun s =>
  let r := rotate op s.a s.flags.c
  { state := s.setReg8 .A r.1, flags := { z := false, n := false, h := false, c := r.2 } }

/-- The CB-prefixed rotates, shifts and SWAP, on either operand form (R231, R236 to R251). -/
def microRot (op : RotOp) (t : Target8) : Microcode := fun s =>
  let r := rotate op (readTarget t s) s.flags.c
  { state := writeTarget t r.1 s, flags := rotateFlags r }

/-- The byte with only bit b set, `1 << b`. -/
def bitMask (b : Index8) : Byte := 1#8 <<< b.toNat

/-- BIT b (R252, R253): a read and no write; Z is set when the bit is 0. -/
def microBit (b : Index8) (t : Target8) : Microcode := fun s =>
  { state := s, flags := { z := !(readTarget t s).getLsbD b.toNat, n := false, h := true } }

/-- RES b (R254, R255): it always writes back. -/
def microRes (b : Index8) (t : Target8) : Microcode := fun s =>
  { state := writeTarget t (readTarget t s &&& ~~~(bitMask b)) s }

/-- SET b (R256, R257): it always writes back. -/
def microSet (b : Index8) (t : Target8) : Microcode := fun s =>
  { state := writeTarget t (readTarget t s ||| bitMask b) s }

/-! The CB table's structure (30_encoding.md R84), read from the fields x, y and z of the second byte (R81). -/

/-- The field y as an index (R81, R82). -/
def index8Of (y : Nat) : Index8 :=
  [Index8.i0, .i1, .i2, .i3, .i4, .i5, .i6, .i7].getD y .i0

/-- rot[y] of R82. -/
def rotOpOf (y : Nat) : RotOp :=
  [RotOp.rlc, .rrc, .rl, .rr, .sla, .sra, .swap, .srl].getD y .rlc

/-- r8[z] of R82. -/
def target8Of (z : Nat) : Target8 :=
  [Target8.reg .B, .reg .C, .reg .D, .reg .E, .reg .H, .reg .L, .atHL, .reg .A].getD z .atHL

/-- Descriptor and microcode of the CB entry at a second byte, by R84: x selects the group, y the operation or bit, z the
operand; ticks 8 for a register and 16 for (HL), except BIT b,(HL), which is 12. -/
def cbEntry (cbop : Byte) : Descriptor × Microcode :=
  let n := cbop.toNat
  let y := n / 8 % 8
  let t := target8Of (n % 8)
  let ticks := if t = .atHL then 16 else 8
  match n / 64 with
  | 0 => (cbDesc n ticks (if rotOpOf y = .swap then gZ000 else gZ00C), microRot (rotOpOf y) t)
  | 1 => (cbDesc n (if t = .atHL then 12 else 8) gZ01x, microBit (index8Of y) t)
  | 2 => (cbDesc n ticks gxxxx, microRes (index8Of y) t)
  | _ => (cbDesc n ticks gxxxx, microSet (index8Of y) t)

/-- RLCA (R232). -/
def execRlca (s : State) : StepResult :=
  engine (primaryDesc 0x07 1 4 g000C) (microRotA .rlc) s

/-- RRCA (R233). -/
def execRrca (s : State) : StepResult :=
  engine (primaryDesc 0x0F 1 4 g000C) (microRotA .rrc) s

/-- RLA (R234). -/
def execRla (s : State) : StepResult :=
  engine (primaryDesc 0x17 1 4 g000C) (microRotA .rl) s

/-- RRA (R235). -/
def execRra (s : State) : StepResult :=
  engine (primaryDesc 0x1F 1 4 g000C) (microRotA .rr) s

/-- RLC B (R236). -/
def execRlc_B (s : State) : StepResult :=
  engine (cbDesc 0x00 8 gZ00C) (microRot .rlc (.reg .B)) s

/-- RLC C (R236). -/
def execRlc_C (s : State) : StepResult :=
  engine (cbDesc 0x01 8 gZ00C) (microRot .rlc (.reg .C)) s

/-- RLC D (R236). -/
def execRlc_D (s : State) : StepResult :=
  engine (cbDesc 0x02 8 gZ00C) (microRot .rlc (.reg .D)) s

/-- RLC E (R236). -/
def execRlc_E (s : State) : StepResult :=
  engine (cbDesc 0x03 8 gZ00C) (microRot .rlc (.reg .E)) s

/-- RLC H (R236). -/
def execRlc_H (s : State) : StepResult :=
  engine (cbDesc 0x04 8 gZ00C) (microRot .rlc (.reg .H)) s

/-- RLC L (R236). -/
def execRlc_L (s : State) : StepResult :=
  engine (cbDesc 0x05 8 gZ00C) (microRot .rlc (.reg .L)) s

/-- RLC (HL) (R237). -/
def execRlc_atHL (s : State) : StepResult :=
  engine (cbDesc 0x06 16 gZ00C) (microRot .rlc .atHL) s

/-- RLC A (R236). -/
def execRlc_A (s : State) : StepResult :=
  engine (cbDesc 0x07 8 gZ00C) (microRot .rlc (.reg .A)) s

/-- RRC B (R238). -/
def execRrc_B (s : State) : StepResult :=
  engine (cbDesc 0x08 8 gZ00C) (microRot .rrc (.reg .B)) s

/-- RRC C (R238). -/
def execRrc_C (s : State) : StepResult :=
  engine (cbDesc 0x09 8 gZ00C) (microRot .rrc (.reg .C)) s

/-- RRC D (R238). -/
def execRrc_D (s : State) : StepResult :=
  engine (cbDesc 0x0A 8 gZ00C) (microRot .rrc (.reg .D)) s

/-- RRC E (R238). -/
def execRrc_E (s : State) : StepResult :=
  engine (cbDesc 0x0B 8 gZ00C) (microRot .rrc (.reg .E)) s

/-- RRC H (R238). -/
def execRrc_H (s : State) : StepResult :=
  engine (cbDesc 0x0C 8 gZ00C) (microRot .rrc (.reg .H)) s

/-- RRC L (R238). -/
def execRrc_L (s : State) : StepResult :=
  engine (cbDesc 0x0D 8 gZ00C) (microRot .rrc (.reg .L)) s

/-- RRC (HL) (R239). -/
def execRrc_atHL (s : State) : StepResult :=
  engine (cbDesc 0x0E 16 gZ00C) (microRot .rrc .atHL) s

/-- RRC A (R238). -/
def execRrc_A (s : State) : StepResult :=
  engine (cbDesc 0x0F 8 gZ00C) (microRot .rrc (.reg .A)) s

/-- RL B (R240). -/
def execRl_B (s : State) : StepResult :=
  engine (cbDesc 0x10 8 gZ00C) (microRot .rl (.reg .B)) s

/-- RL C (R240). -/
def execRl_C (s : State) : StepResult :=
  engine (cbDesc 0x11 8 gZ00C) (microRot .rl (.reg .C)) s

/-- RL D (R240). -/
def execRl_D (s : State) : StepResult :=
  engine (cbDesc 0x12 8 gZ00C) (microRot .rl (.reg .D)) s

/-- RL E (R240). -/
def execRl_E (s : State) : StepResult :=
  engine (cbDesc 0x13 8 gZ00C) (microRot .rl (.reg .E)) s

/-- RL H (R240). -/
def execRl_H (s : State) : StepResult :=
  engine (cbDesc 0x14 8 gZ00C) (microRot .rl (.reg .H)) s

/-- RL L (R240). -/
def execRl_L (s : State) : StepResult :=
  engine (cbDesc 0x15 8 gZ00C) (microRot .rl (.reg .L)) s

/-- RL (HL) (R241). -/
def execRl_atHL (s : State) : StepResult :=
  engine (cbDesc 0x16 16 gZ00C) (microRot .rl .atHL) s

/-- RL A (R240). -/
def execRl_A (s : State) : StepResult :=
  engine (cbDesc 0x17 8 gZ00C) (microRot .rl (.reg .A)) s

/-- RR B (R242). -/
def execRr_B (s : State) : StepResult :=
  engine (cbDesc 0x18 8 gZ00C) (microRot .rr (.reg .B)) s

/-- RR C (R242). -/
def execRr_C (s : State) : StepResult :=
  engine (cbDesc 0x19 8 gZ00C) (microRot .rr (.reg .C)) s

/-- RR D (R242). -/
def execRr_D (s : State) : StepResult :=
  engine (cbDesc 0x1A 8 gZ00C) (microRot .rr (.reg .D)) s

/-- RR E (R242). -/
def execRr_E (s : State) : StepResult :=
  engine (cbDesc 0x1B 8 gZ00C) (microRot .rr (.reg .E)) s

/-- RR H (R242). -/
def execRr_H (s : State) : StepResult :=
  engine (cbDesc 0x1C 8 gZ00C) (microRot .rr (.reg .H)) s

/-- RR L (R242). -/
def execRr_L (s : State) : StepResult :=
  engine (cbDesc 0x1D 8 gZ00C) (microRot .rr (.reg .L)) s

/-- RR (HL) (R243). -/
def execRr_atHL (s : State) : StepResult :=
  engine (cbDesc 0x1E 16 gZ00C) (microRot .rr .atHL) s

/-- RR A (R242). -/
def execRr_A (s : State) : StepResult :=
  engine (cbDesc 0x1F 8 gZ00C) (microRot .rr (.reg .A)) s

/-- SLA B (R244). -/
def execSla_B (s : State) : StepResult :=
  engine (cbDesc 0x20 8 gZ00C) (microRot .sla (.reg .B)) s

/-- SLA C (R244). -/
def execSla_C (s : State) : StepResult :=
  engine (cbDesc 0x21 8 gZ00C) (microRot .sla (.reg .C)) s

/-- SLA D (R244). -/
def execSla_D (s : State) : StepResult :=
  engine (cbDesc 0x22 8 gZ00C) (microRot .sla (.reg .D)) s

/-- SLA E (R244). -/
def execSla_E (s : State) : StepResult :=
  engine (cbDesc 0x23 8 gZ00C) (microRot .sla (.reg .E)) s

/-- SLA H (R244). -/
def execSla_H (s : State) : StepResult :=
  engine (cbDesc 0x24 8 gZ00C) (microRot .sla (.reg .H)) s

/-- SLA L (R244). -/
def execSla_L (s : State) : StepResult :=
  engine (cbDesc 0x25 8 gZ00C) (microRot .sla (.reg .L)) s

/-- SLA (HL) (R245). -/
def execSla_atHL (s : State) : StepResult :=
  engine (cbDesc 0x26 16 gZ00C) (microRot .sla .atHL) s

/-- SLA A (R244). -/
def execSla_A (s : State) : StepResult :=
  engine (cbDesc 0x27 8 gZ00C) (microRot .sla (.reg .A)) s

/-- SRA B (R246). -/
def execSra_B (s : State) : StepResult :=
  engine (cbDesc 0x28 8 gZ00C) (microRot .sra (.reg .B)) s

/-- SRA C (R246). -/
def execSra_C (s : State) : StepResult :=
  engine (cbDesc 0x29 8 gZ00C) (microRot .sra (.reg .C)) s

/-- SRA D (R246). -/
def execSra_D (s : State) : StepResult :=
  engine (cbDesc 0x2A 8 gZ00C) (microRot .sra (.reg .D)) s

/-- SRA E (R246). -/
def execSra_E (s : State) : StepResult :=
  engine (cbDesc 0x2B 8 gZ00C) (microRot .sra (.reg .E)) s

/-- SRA H (R246). -/
def execSra_H (s : State) : StepResult :=
  engine (cbDesc 0x2C 8 gZ00C) (microRot .sra (.reg .H)) s

/-- SRA L (R246). -/
def execSra_L (s : State) : StepResult :=
  engine (cbDesc 0x2D 8 gZ00C) (microRot .sra (.reg .L)) s

/-- SRA (HL) (R247). -/
def execSra_atHL (s : State) : StepResult :=
  engine (cbDesc 0x2E 16 gZ00C) (microRot .sra .atHL) s

/-- SRA A (R246). -/
def execSra_A (s : State) : StepResult :=
  engine (cbDesc 0x2F 8 gZ00C) (microRot .sra (.reg .A)) s

/-- SWAP B (R248). -/
def execSwap_B (s : State) : StepResult :=
  engine (cbDesc 0x30 8 gZ000) (microRot .swap (.reg .B)) s

/-- SWAP C (R248). -/
def execSwap_C (s : State) : StepResult :=
  engine (cbDesc 0x31 8 gZ000) (microRot .swap (.reg .C)) s

/-- SWAP D (R248). -/
def execSwap_D (s : State) : StepResult :=
  engine (cbDesc 0x32 8 gZ000) (microRot .swap (.reg .D)) s

/-- SWAP E (R248). -/
def execSwap_E (s : State) : StepResult :=
  engine (cbDesc 0x33 8 gZ000) (microRot .swap (.reg .E)) s

/-- SWAP H (R248). -/
def execSwap_H (s : State) : StepResult :=
  engine (cbDesc 0x34 8 gZ000) (microRot .swap (.reg .H)) s

/-- SWAP L (R248). -/
def execSwap_L (s : State) : StepResult :=
  engine (cbDesc 0x35 8 gZ000) (microRot .swap (.reg .L)) s

/-- SWAP (HL) (R249). -/
def execSwap_atHL (s : State) : StepResult :=
  engine (cbDesc 0x36 16 gZ000) (microRot .swap .atHL) s

/-- SWAP A (R248). -/
def execSwap_A (s : State) : StepResult :=
  engine (cbDesc 0x37 8 gZ000) (microRot .swap (.reg .A)) s

/-- SRL B (R250). -/
def execSrl_B (s : State) : StepResult :=
  engine (cbDesc 0x38 8 gZ00C) (microRot .srl (.reg .B)) s

/-- SRL C (R250). -/
def execSrl_C (s : State) : StepResult :=
  engine (cbDesc 0x39 8 gZ00C) (microRot .srl (.reg .C)) s

/-- SRL D (R250). -/
def execSrl_D (s : State) : StepResult :=
  engine (cbDesc 0x3A 8 gZ00C) (microRot .srl (.reg .D)) s

/-- SRL E (R250). -/
def execSrl_E (s : State) : StepResult :=
  engine (cbDesc 0x3B 8 gZ00C) (microRot .srl (.reg .E)) s

/-- SRL H (R250). -/
def execSrl_H (s : State) : StepResult :=
  engine (cbDesc 0x3C 8 gZ00C) (microRot .srl (.reg .H)) s

/-- SRL L (R250). -/
def execSrl_L (s : State) : StepResult :=
  engine (cbDesc 0x3D 8 gZ00C) (microRot .srl (.reg .L)) s

/-- SRL (HL) (R251). -/
def execSrl_atHL (s : State) : StepResult :=
  engine (cbDesc 0x3E 16 gZ00C) (microRot .srl .atHL) s

/-- SRL A (R250). -/
def execSrl_A (s : State) : StepResult :=
  engine (cbDesc 0x3F 8 gZ00C) (microRot .srl (.reg .A)) s

/-- BIT 0,B (R252). -/
def execBit_0_B (s : State) : StepResult :=
  engine (cbDesc 0x40 8 gZ01x) (microBit .i0 (.reg .B)) s

/-- BIT 0,C (R252). -/
def execBit_0_C (s : State) : StepResult :=
  engine (cbDesc 0x41 8 gZ01x) (microBit .i0 (.reg .C)) s

/-- BIT 0,D (R252). -/
def execBit_0_D (s : State) : StepResult :=
  engine (cbDesc 0x42 8 gZ01x) (microBit .i0 (.reg .D)) s

/-- BIT 0,E (R252). -/
def execBit_0_E (s : State) : StepResult :=
  engine (cbDesc 0x43 8 gZ01x) (microBit .i0 (.reg .E)) s

/-- BIT 0,H (R252). -/
def execBit_0_H (s : State) : StepResult :=
  engine (cbDesc 0x44 8 gZ01x) (microBit .i0 (.reg .H)) s

/-- BIT 0,L (R252). -/
def execBit_0_L (s : State) : StepResult :=
  engine (cbDesc 0x45 8 gZ01x) (microBit .i0 (.reg .L)) s

/-- BIT 0,(HL) (R253). -/
def execBit_0_atHL (s : State) : StepResult :=
  engine (cbDesc 0x46 12 gZ01x) (microBit .i0 .atHL) s

/-- BIT 0,A (R252). -/
def execBit_0_A (s : State) : StepResult :=
  engine (cbDesc 0x47 8 gZ01x) (microBit .i0 (.reg .A)) s

/-- BIT 1,B (R252). -/
def execBit_1_B (s : State) : StepResult :=
  engine (cbDesc 0x48 8 gZ01x) (microBit .i1 (.reg .B)) s

/-- BIT 1,C (R252). -/
def execBit_1_C (s : State) : StepResult :=
  engine (cbDesc 0x49 8 gZ01x) (microBit .i1 (.reg .C)) s

/-- BIT 1,D (R252). -/
def execBit_1_D (s : State) : StepResult :=
  engine (cbDesc 0x4A 8 gZ01x) (microBit .i1 (.reg .D)) s

/-- BIT 1,E (R252). -/
def execBit_1_E (s : State) : StepResult :=
  engine (cbDesc 0x4B 8 gZ01x) (microBit .i1 (.reg .E)) s

/-- BIT 1,H (R252). -/
def execBit_1_H (s : State) : StepResult :=
  engine (cbDesc 0x4C 8 gZ01x) (microBit .i1 (.reg .H)) s

/-- BIT 1,L (R252). -/
def execBit_1_L (s : State) : StepResult :=
  engine (cbDesc 0x4D 8 gZ01x) (microBit .i1 (.reg .L)) s

/-- BIT 1,(HL) (R253). -/
def execBit_1_atHL (s : State) : StepResult :=
  engine (cbDesc 0x4E 12 gZ01x) (microBit .i1 .atHL) s

/-- BIT 1,A (R252). -/
def execBit_1_A (s : State) : StepResult :=
  engine (cbDesc 0x4F 8 gZ01x) (microBit .i1 (.reg .A)) s

/-- BIT 2,B (R252). -/
def execBit_2_B (s : State) : StepResult :=
  engine (cbDesc 0x50 8 gZ01x) (microBit .i2 (.reg .B)) s

/-- BIT 2,C (R252). -/
def execBit_2_C (s : State) : StepResult :=
  engine (cbDesc 0x51 8 gZ01x) (microBit .i2 (.reg .C)) s

/-- BIT 2,D (R252). -/
def execBit_2_D (s : State) : StepResult :=
  engine (cbDesc 0x52 8 gZ01x) (microBit .i2 (.reg .D)) s

/-- BIT 2,E (R252). -/
def execBit_2_E (s : State) : StepResult :=
  engine (cbDesc 0x53 8 gZ01x) (microBit .i2 (.reg .E)) s

/-- BIT 2,H (R252). -/
def execBit_2_H (s : State) : StepResult :=
  engine (cbDesc 0x54 8 gZ01x) (microBit .i2 (.reg .H)) s

/-- BIT 2,L (R252). -/
def execBit_2_L (s : State) : StepResult :=
  engine (cbDesc 0x55 8 gZ01x) (microBit .i2 (.reg .L)) s

/-- BIT 2,(HL) (R253). -/
def execBit_2_atHL (s : State) : StepResult :=
  engine (cbDesc 0x56 12 gZ01x) (microBit .i2 .atHL) s

/-- BIT 2,A (R252). -/
def execBit_2_A (s : State) : StepResult :=
  engine (cbDesc 0x57 8 gZ01x) (microBit .i2 (.reg .A)) s

/-- BIT 3,B (R252). -/
def execBit_3_B (s : State) : StepResult :=
  engine (cbDesc 0x58 8 gZ01x) (microBit .i3 (.reg .B)) s

/-- BIT 3,C (R252). -/
def execBit_3_C (s : State) : StepResult :=
  engine (cbDesc 0x59 8 gZ01x) (microBit .i3 (.reg .C)) s

/-- BIT 3,D (R252). -/
def execBit_3_D (s : State) : StepResult :=
  engine (cbDesc 0x5A 8 gZ01x) (microBit .i3 (.reg .D)) s

/-- BIT 3,E (R252). -/
def execBit_3_E (s : State) : StepResult :=
  engine (cbDesc 0x5B 8 gZ01x) (microBit .i3 (.reg .E)) s

/-- BIT 3,H (R252). -/
def execBit_3_H (s : State) : StepResult :=
  engine (cbDesc 0x5C 8 gZ01x) (microBit .i3 (.reg .H)) s

/-- BIT 3,L (R252). -/
def execBit_3_L (s : State) : StepResult :=
  engine (cbDesc 0x5D 8 gZ01x) (microBit .i3 (.reg .L)) s

/-- BIT 3,(HL) (R253). -/
def execBit_3_atHL (s : State) : StepResult :=
  engine (cbDesc 0x5E 12 gZ01x) (microBit .i3 .atHL) s

/-- BIT 3,A (R252). -/
def execBit_3_A (s : State) : StepResult :=
  engine (cbDesc 0x5F 8 gZ01x) (microBit .i3 (.reg .A)) s

/-- BIT 4,B (R252). -/
def execBit_4_B (s : State) : StepResult :=
  engine (cbDesc 0x60 8 gZ01x) (microBit .i4 (.reg .B)) s

/-- BIT 4,C (R252). -/
def execBit_4_C (s : State) : StepResult :=
  engine (cbDesc 0x61 8 gZ01x) (microBit .i4 (.reg .C)) s

/-- BIT 4,D (R252). -/
def execBit_4_D (s : State) : StepResult :=
  engine (cbDesc 0x62 8 gZ01x) (microBit .i4 (.reg .D)) s

/-- BIT 4,E (R252). -/
def execBit_4_E (s : State) : StepResult :=
  engine (cbDesc 0x63 8 gZ01x) (microBit .i4 (.reg .E)) s

/-- BIT 4,H (R252). -/
def execBit_4_H (s : State) : StepResult :=
  engine (cbDesc 0x64 8 gZ01x) (microBit .i4 (.reg .H)) s

/-- BIT 4,L (R252). -/
def execBit_4_L (s : State) : StepResult :=
  engine (cbDesc 0x65 8 gZ01x) (microBit .i4 (.reg .L)) s

/-- BIT 4,(HL) (R253). -/
def execBit_4_atHL (s : State) : StepResult :=
  engine (cbDesc 0x66 12 gZ01x) (microBit .i4 .atHL) s

/-- BIT 4,A (R252). -/
def execBit_4_A (s : State) : StepResult :=
  engine (cbDesc 0x67 8 gZ01x) (microBit .i4 (.reg .A)) s

/-- BIT 5,B (R252). -/
def execBit_5_B (s : State) : StepResult :=
  engine (cbDesc 0x68 8 gZ01x) (microBit .i5 (.reg .B)) s

/-- BIT 5,C (R252). -/
def execBit_5_C (s : State) : StepResult :=
  engine (cbDesc 0x69 8 gZ01x) (microBit .i5 (.reg .C)) s

/-- BIT 5,D (R252). -/
def execBit_5_D (s : State) : StepResult :=
  engine (cbDesc 0x6A 8 gZ01x) (microBit .i5 (.reg .D)) s

/-- BIT 5,E (R252). -/
def execBit_5_E (s : State) : StepResult :=
  engine (cbDesc 0x6B 8 gZ01x) (microBit .i5 (.reg .E)) s

/-- BIT 5,H (R252). -/
def execBit_5_H (s : State) : StepResult :=
  engine (cbDesc 0x6C 8 gZ01x) (microBit .i5 (.reg .H)) s

/-- BIT 5,L (R252). -/
def execBit_5_L (s : State) : StepResult :=
  engine (cbDesc 0x6D 8 gZ01x) (microBit .i5 (.reg .L)) s

/-- BIT 5,(HL) (R253). -/
def execBit_5_atHL (s : State) : StepResult :=
  engine (cbDesc 0x6E 12 gZ01x) (microBit .i5 .atHL) s

/-- BIT 5,A (R252). -/
def execBit_5_A (s : State) : StepResult :=
  engine (cbDesc 0x6F 8 gZ01x) (microBit .i5 (.reg .A)) s

/-- BIT 6,B (R252). -/
def execBit_6_B (s : State) : StepResult :=
  engine (cbDesc 0x70 8 gZ01x) (microBit .i6 (.reg .B)) s

/-- BIT 6,C (R252). -/
def execBit_6_C (s : State) : StepResult :=
  engine (cbDesc 0x71 8 gZ01x) (microBit .i6 (.reg .C)) s

/-- BIT 6,D (R252). -/
def execBit_6_D (s : State) : StepResult :=
  engine (cbDesc 0x72 8 gZ01x) (microBit .i6 (.reg .D)) s

/-- BIT 6,E (R252). -/
def execBit_6_E (s : State) : StepResult :=
  engine (cbDesc 0x73 8 gZ01x) (microBit .i6 (.reg .E)) s

/-- BIT 6,H (R252). -/
def execBit_6_H (s : State) : StepResult :=
  engine (cbDesc 0x74 8 gZ01x) (microBit .i6 (.reg .H)) s

/-- BIT 6,L (R252). -/
def execBit_6_L (s : State) : StepResult :=
  engine (cbDesc 0x75 8 gZ01x) (microBit .i6 (.reg .L)) s

/-- BIT 6,(HL) (R253). -/
def execBit_6_atHL (s : State) : StepResult :=
  engine (cbDesc 0x76 12 gZ01x) (microBit .i6 .atHL) s

/-- BIT 6,A (R252). -/
def execBit_6_A (s : State) : StepResult :=
  engine (cbDesc 0x77 8 gZ01x) (microBit .i6 (.reg .A)) s

/-- BIT 7,B (R252). -/
def execBit_7_B (s : State) : StepResult :=
  engine (cbDesc 0x78 8 gZ01x) (microBit .i7 (.reg .B)) s

/-- BIT 7,C (R252). -/
def execBit_7_C (s : State) : StepResult :=
  engine (cbDesc 0x79 8 gZ01x) (microBit .i7 (.reg .C)) s

/-- BIT 7,D (R252). -/
def execBit_7_D (s : State) : StepResult :=
  engine (cbDesc 0x7A 8 gZ01x) (microBit .i7 (.reg .D)) s

/-- BIT 7,E (R252). -/
def execBit_7_E (s : State) : StepResult :=
  engine (cbDesc 0x7B 8 gZ01x) (microBit .i7 (.reg .E)) s

/-- BIT 7,H (R252). -/
def execBit_7_H (s : State) : StepResult :=
  engine (cbDesc 0x7C 8 gZ01x) (microBit .i7 (.reg .H)) s

/-- BIT 7,L (R252). -/
def execBit_7_L (s : State) : StepResult :=
  engine (cbDesc 0x7D 8 gZ01x) (microBit .i7 (.reg .L)) s

/-- BIT 7,(HL) (R253). -/
def execBit_7_atHL (s : State) : StepResult :=
  engine (cbDesc 0x7E 12 gZ01x) (microBit .i7 .atHL) s

/-- BIT 7,A (R252). -/
def execBit_7_A (s : State) : StepResult :=
  engine (cbDesc 0x7F 8 gZ01x) (microBit .i7 (.reg .A)) s

/-- RES 0,B (R254). -/
def execRes_0_B (s : State) : StepResult :=
  engine (cbDesc 0x80 8 gxxxx) (microRes .i0 (.reg .B)) s

/-- RES 0,C (R254). -/
def execRes_0_C (s : State) : StepResult :=
  engine (cbDesc 0x81 8 gxxxx) (microRes .i0 (.reg .C)) s

/-- RES 0,D (R254). -/
def execRes_0_D (s : State) : StepResult :=
  engine (cbDesc 0x82 8 gxxxx) (microRes .i0 (.reg .D)) s

/-- RES 0,E (R254). -/
def execRes_0_E (s : State) : StepResult :=
  engine (cbDesc 0x83 8 gxxxx) (microRes .i0 (.reg .E)) s

/-- RES 0,H (R254). -/
def execRes_0_H (s : State) : StepResult :=
  engine (cbDesc 0x84 8 gxxxx) (microRes .i0 (.reg .H)) s

/-- RES 0,L (R254). -/
def execRes_0_L (s : State) : StepResult :=
  engine (cbDesc 0x85 8 gxxxx) (microRes .i0 (.reg .L)) s

/-- RES 0,(HL) (R255). -/
def execRes_0_atHL (s : State) : StepResult :=
  engine (cbDesc 0x86 16 gxxxx) (microRes .i0 .atHL) s

/-- RES 0,A (R254). -/
def execRes_0_A (s : State) : StepResult :=
  engine (cbDesc 0x87 8 gxxxx) (microRes .i0 (.reg .A)) s

/-- RES 1,B (R254). -/
def execRes_1_B (s : State) : StepResult :=
  engine (cbDesc 0x88 8 gxxxx) (microRes .i1 (.reg .B)) s

/-- RES 1,C (R254). -/
def execRes_1_C (s : State) : StepResult :=
  engine (cbDesc 0x89 8 gxxxx) (microRes .i1 (.reg .C)) s

/-- RES 1,D (R254). -/
def execRes_1_D (s : State) : StepResult :=
  engine (cbDesc 0x8A 8 gxxxx) (microRes .i1 (.reg .D)) s

/-- RES 1,E (R254). -/
def execRes_1_E (s : State) : StepResult :=
  engine (cbDesc 0x8B 8 gxxxx) (microRes .i1 (.reg .E)) s

/-- RES 1,H (R254). -/
def execRes_1_H (s : State) : StepResult :=
  engine (cbDesc 0x8C 8 gxxxx) (microRes .i1 (.reg .H)) s

/-- RES 1,L (R254). -/
def execRes_1_L (s : State) : StepResult :=
  engine (cbDesc 0x8D 8 gxxxx) (microRes .i1 (.reg .L)) s

/-- RES 1,(HL) (R255). -/
def execRes_1_atHL (s : State) : StepResult :=
  engine (cbDesc 0x8E 16 gxxxx) (microRes .i1 .atHL) s

/-- RES 1,A (R254). -/
def execRes_1_A (s : State) : StepResult :=
  engine (cbDesc 0x8F 8 gxxxx) (microRes .i1 (.reg .A)) s

/-- RES 2,B (R254). -/
def execRes_2_B (s : State) : StepResult :=
  engine (cbDesc 0x90 8 gxxxx) (microRes .i2 (.reg .B)) s

/-- RES 2,C (R254). -/
def execRes_2_C (s : State) : StepResult :=
  engine (cbDesc 0x91 8 gxxxx) (microRes .i2 (.reg .C)) s

/-- RES 2,D (R254). -/
def execRes_2_D (s : State) : StepResult :=
  engine (cbDesc 0x92 8 gxxxx) (microRes .i2 (.reg .D)) s

/-- RES 2,E (R254). -/
def execRes_2_E (s : State) : StepResult :=
  engine (cbDesc 0x93 8 gxxxx) (microRes .i2 (.reg .E)) s

/-- RES 2,H (R254). -/
def execRes_2_H (s : State) : StepResult :=
  engine (cbDesc 0x94 8 gxxxx) (microRes .i2 (.reg .H)) s

/-- RES 2,L (R254). -/
def execRes_2_L (s : State) : StepResult :=
  engine (cbDesc 0x95 8 gxxxx) (microRes .i2 (.reg .L)) s

/-- RES 2,(HL) (R255). -/
def execRes_2_atHL (s : State) : StepResult :=
  engine (cbDesc 0x96 16 gxxxx) (microRes .i2 .atHL) s

/-- RES 2,A (R254). -/
def execRes_2_A (s : State) : StepResult :=
  engine (cbDesc 0x97 8 gxxxx) (microRes .i2 (.reg .A)) s

/-- RES 3,B (R254). -/
def execRes_3_B (s : State) : StepResult :=
  engine (cbDesc 0x98 8 gxxxx) (microRes .i3 (.reg .B)) s

/-- RES 3,C (R254). -/
def execRes_3_C (s : State) : StepResult :=
  engine (cbDesc 0x99 8 gxxxx) (microRes .i3 (.reg .C)) s

/-- RES 3,D (R254). -/
def execRes_3_D (s : State) : StepResult :=
  engine (cbDesc 0x9A 8 gxxxx) (microRes .i3 (.reg .D)) s

/-- RES 3,E (R254). -/
def execRes_3_E (s : State) : StepResult :=
  engine (cbDesc 0x9B 8 gxxxx) (microRes .i3 (.reg .E)) s

/-- RES 3,H (R254). -/
def execRes_3_H (s : State) : StepResult :=
  engine (cbDesc 0x9C 8 gxxxx) (microRes .i3 (.reg .H)) s

/-- RES 3,L (R254). -/
def execRes_3_L (s : State) : StepResult :=
  engine (cbDesc 0x9D 8 gxxxx) (microRes .i3 (.reg .L)) s

/-- RES 3,(HL) (R255). -/
def execRes_3_atHL (s : State) : StepResult :=
  engine (cbDesc 0x9E 16 gxxxx) (microRes .i3 .atHL) s

/-- RES 3,A (R254). -/
def execRes_3_A (s : State) : StepResult :=
  engine (cbDesc 0x9F 8 gxxxx) (microRes .i3 (.reg .A)) s

/-- RES 4,B (R254). -/
def execRes_4_B (s : State) : StepResult :=
  engine (cbDesc 0xA0 8 gxxxx) (microRes .i4 (.reg .B)) s

/-- RES 4,C (R254). -/
def execRes_4_C (s : State) : StepResult :=
  engine (cbDesc 0xA1 8 gxxxx) (microRes .i4 (.reg .C)) s

/-- RES 4,D (R254). -/
def execRes_4_D (s : State) : StepResult :=
  engine (cbDesc 0xA2 8 gxxxx) (microRes .i4 (.reg .D)) s

/-- RES 4,E (R254). -/
def execRes_4_E (s : State) : StepResult :=
  engine (cbDesc 0xA3 8 gxxxx) (microRes .i4 (.reg .E)) s

/-- RES 4,H (R254). -/
def execRes_4_H (s : State) : StepResult :=
  engine (cbDesc 0xA4 8 gxxxx) (microRes .i4 (.reg .H)) s

/-- RES 4,L (R254). -/
def execRes_4_L (s : State) : StepResult :=
  engine (cbDesc 0xA5 8 gxxxx) (microRes .i4 (.reg .L)) s

/-- RES 4,(HL) (R255). -/
def execRes_4_atHL (s : State) : StepResult :=
  engine (cbDesc 0xA6 16 gxxxx) (microRes .i4 .atHL) s

/-- RES 4,A (R254). -/
def execRes_4_A (s : State) : StepResult :=
  engine (cbDesc 0xA7 8 gxxxx) (microRes .i4 (.reg .A)) s

/-- RES 5,B (R254). -/
def execRes_5_B (s : State) : StepResult :=
  engine (cbDesc 0xA8 8 gxxxx) (microRes .i5 (.reg .B)) s

/-- RES 5,C (R254). -/
def execRes_5_C (s : State) : StepResult :=
  engine (cbDesc 0xA9 8 gxxxx) (microRes .i5 (.reg .C)) s

/-- RES 5,D (R254). -/
def execRes_5_D (s : State) : StepResult :=
  engine (cbDesc 0xAA 8 gxxxx) (microRes .i5 (.reg .D)) s

/-- RES 5,E (R254). -/
def execRes_5_E (s : State) : StepResult :=
  engine (cbDesc 0xAB 8 gxxxx) (microRes .i5 (.reg .E)) s

/-- RES 5,H (R254). -/
def execRes_5_H (s : State) : StepResult :=
  engine (cbDesc 0xAC 8 gxxxx) (microRes .i5 (.reg .H)) s

/-- RES 5,L (R254). -/
def execRes_5_L (s : State) : StepResult :=
  engine (cbDesc 0xAD 8 gxxxx) (microRes .i5 (.reg .L)) s

/-- RES 5,(HL) (R255). -/
def execRes_5_atHL (s : State) : StepResult :=
  engine (cbDesc 0xAE 16 gxxxx) (microRes .i5 .atHL) s

/-- RES 5,A (R254). -/
def execRes_5_A (s : State) : StepResult :=
  engine (cbDesc 0xAF 8 gxxxx) (microRes .i5 (.reg .A)) s

/-- RES 6,B (R254). -/
def execRes_6_B (s : State) : StepResult :=
  engine (cbDesc 0xB0 8 gxxxx) (microRes .i6 (.reg .B)) s

/-- RES 6,C (R254). -/
def execRes_6_C (s : State) : StepResult :=
  engine (cbDesc 0xB1 8 gxxxx) (microRes .i6 (.reg .C)) s

/-- RES 6,D (R254). -/
def execRes_6_D (s : State) : StepResult :=
  engine (cbDesc 0xB2 8 gxxxx) (microRes .i6 (.reg .D)) s

/-- RES 6,E (R254). -/
def execRes_6_E (s : State) : StepResult :=
  engine (cbDesc 0xB3 8 gxxxx) (microRes .i6 (.reg .E)) s

/-- RES 6,H (R254). -/
def execRes_6_H (s : State) : StepResult :=
  engine (cbDesc 0xB4 8 gxxxx) (microRes .i6 (.reg .H)) s

/-- RES 6,L (R254). -/
def execRes_6_L (s : State) : StepResult :=
  engine (cbDesc 0xB5 8 gxxxx) (microRes .i6 (.reg .L)) s

/-- RES 6,(HL) (R255). -/
def execRes_6_atHL (s : State) : StepResult :=
  engine (cbDesc 0xB6 16 gxxxx) (microRes .i6 .atHL) s

/-- RES 6,A (R254). -/
def execRes_6_A (s : State) : StepResult :=
  engine (cbDesc 0xB7 8 gxxxx) (microRes .i6 (.reg .A)) s

/-- RES 7,B (R254). -/
def execRes_7_B (s : State) : StepResult :=
  engine (cbDesc 0xB8 8 gxxxx) (microRes .i7 (.reg .B)) s

/-- RES 7,C (R254). -/
def execRes_7_C (s : State) : StepResult :=
  engine (cbDesc 0xB9 8 gxxxx) (microRes .i7 (.reg .C)) s

/-- RES 7,D (R254). -/
def execRes_7_D (s : State) : StepResult :=
  engine (cbDesc 0xBA 8 gxxxx) (microRes .i7 (.reg .D)) s

/-- RES 7,E (R254). -/
def execRes_7_E (s : State) : StepResult :=
  engine (cbDesc 0xBB 8 gxxxx) (microRes .i7 (.reg .E)) s

/-- RES 7,H (R254). -/
def execRes_7_H (s : State) : StepResult :=
  engine (cbDesc 0xBC 8 gxxxx) (microRes .i7 (.reg .H)) s

/-- RES 7,L (R254). -/
def execRes_7_L (s : State) : StepResult :=
  engine (cbDesc 0xBD 8 gxxxx) (microRes .i7 (.reg .L)) s

/-- RES 7,(HL) (R255). -/
def execRes_7_atHL (s : State) : StepResult :=
  engine (cbDesc 0xBE 16 gxxxx) (microRes .i7 .atHL) s

/-- RES 7,A (R254). -/
def execRes_7_A (s : State) : StepResult :=
  engine (cbDesc 0xBF 8 gxxxx) (microRes .i7 (.reg .A)) s

/-- SET 0,B (R256). -/
def execSet_0_B (s : State) : StepResult :=
  engine (cbDesc 0xC0 8 gxxxx) (microSet .i0 (.reg .B)) s

/-- SET 0,C (R256). -/
def execSet_0_C (s : State) : StepResult :=
  engine (cbDesc 0xC1 8 gxxxx) (microSet .i0 (.reg .C)) s

/-- SET 0,D (R256). -/
def execSet_0_D (s : State) : StepResult :=
  engine (cbDesc 0xC2 8 gxxxx) (microSet .i0 (.reg .D)) s

/-- SET 0,E (R256). -/
def execSet_0_E (s : State) : StepResult :=
  engine (cbDesc 0xC3 8 gxxxx) (microSet .i0 (.reg .E)) s

/-- SET 0,H (R256). -/
def execSet_0_H (s : State) : StepResult :=
  engine (cbDesc 0xC4 8 gxxxx) (microSet .i0 (.reg .H)) s

/-- SET 0,L (R256). -/
def execSet_0_L (s : State) : StepResult :=
  engine (cbDesc 0xC5 8 gxxxx) (microSet .i0 (.reg .L)) s

/-- SET 0,(HL) (R257). -/
def execSet_0_atHL (s : State) : StepResult :=
  engine (cbDesc 0xC6 16 gxxxx) (microSet .i0 .atHL) s

/-- SET 0,A (R256). -/
def execSet_0_A (s : State) : StepResult :=
  engine (cbDesc 0xC7 8 gxxxx) (microSet .i0 (.reg .A)) s

/-- SET 1,B (R256). -/
def execSet_1_B (s : State) : StepResult :=
  engine (cbDesc 0xC8 8 gxxxx) (microSet .i1 (.reg .B)) s

/-- SET 1,C (R256). -/
def execSet_1_C (s : State) : StepResult :=
  engine (cbDesc 0xC9 8 gxxxx) (microSet .i1 (.reg .C)) s

/-- SET 1,D (R256). -/
def execSet_1_D (s : State) : StepResult :=
  engine (cbDesc 0xCA 8 gxxxx) (microSet .i1 (.reg .D)) s

/-- SET 1,E (R256). -/
def execSet_1_E (s : State) : StepResult :=
  engine (cbDesc 0xCB 8 gxxxx) (microSet .i1 (.reg .E)) s

/-- SET 1,H (R256). -/
def execSet_1_H (s : State) : StepResult :=
  engine (cbDesc 0xCC 8 gxxxx) (microSet .i1 (.reg .H)) s

/-- SET 1,L (R256). -/
def execSet_1_L (s : State) : StepResult :=
  engine (cbDesc 0xCD 8 gxxxx) (microSet .i1 (.reg .L)) s

/-- SET 1,(HL) (R257). -/
def execSet_1_atHL (s : State) : StepResult :=
  engine (cbDesc 0xCE 16 gxxxx) (microSet .i1 .atHL) s

/-- SET 1,A (R256). -/
def execSet_1_A (s : State) : StepResult :=
  engine (cbDesc 0xCF 8 gxxxx) (microSet .i1 (.reg .A)) s

/-- SET 2,B (R256). -/
def execSet_2_B (s : State) : StepResult :=
  engine (cbDesc 0xD0 8 gxxxx) (microSet .i2 (.reg .B)) s

/-- SET 2,C (R256). -/
def execSet_2_C (s : State) : StepResult :=
  engine (cbDesc 0xD1 8 gxxxx) (microSet .i2 (.reg .C)) s

/-- SET 2,D (R256). -/
def execSet_2_D (s : State) : StepResult :=
  engine (cbDesc 0xD2 8 gxxxx) (microSet .i2 (.reg .D)) s

/-- SET 2,E (R256). -/
def execSet_2_E (s : State) : StepResult :=
  engine (cbDesc 0xD3 8 gxxxx) (microSet .i2 (.reg .E)) s

/-- SET 2,H (R256). -/
def execSet_2_H (s : State) : StepResult :=
  engine (cbDesc 0xD4 8 gxxxx) (microSet .i2 (.reg .H)) s

/-- SET 2,L (R256). -/
def execSet_2_L (s : State) : StepResult :=
  engine (cbDesc 0xD5 8 gxxxx) (microSet .i2 (.reg .L)) s

/-- SET 2,(HL) (R257). -/
def execSet_2_atHL (s : State) : StepResult :=
  engine (cbDesc 0xD6 16 gxxxx) (microSet .i2 .atHL) s

/-- SET 2,A (R256). -/
def execSet_2_A (s : State) : StepResult :=
  engine (cbDesc 0xD7 8 gxxxx) (microSet .i2 (.reg .A)) s

/-- SET 3,B (R256). -/
def execSet_3_B (s : State) : StepResult :=
  engine (cbDesc 0xD8 8 gxxxx) (microSet .i3 (.reg .B)) s

/-- SET 3,C (R256). -/
def execSet_3_C (s : State) : StepResult :=
  engine (cbDesc 0xD9 8 gxxxx) (microSet .i3 (.reg .C)) s

/-- SET 3,D (R256). -/
def execSet_3_D (s : State) : StepResult :=
  engine (cbDesc 0xDA 8 gxxxx) (microSet .i3 (.reg .D)) s

/-- SET 3,E (R256). -/
def execSet_3_E (s : State) : StepResult :=
  engine (cbDesc 0xDB 8 gxxxx) (microSet .i3 (.reg .E)) s

/-- SET 3,H (R256). -/
def execSet_3_H (s : State) : StepResult :=
  engine (cbDesc 0xDC 8 gxxxx) (microSet .i3 (.reg .H)) s

/-- SET 3,L (R256). -/
def execSet_3_L (s : State) : StepResult :=
  engine (cbDesc 0xDD 8 gxxxx) (microSet .i3 (.reg .L)) s

/-- SET 3,(HL) (R257). -/
def execSet_3_atHL (s : State) : StepResult :=
  engine (cbDesc 0xDE 16 gxxxx) (microSet .i3 .atHL) s

/-- SET 3,A (R256). -/
def execSet_3_A (s : State) : StepResult :=
  engine (cbDesc 0xDF 8 gxxxx) (microSet .i3 (.reg .A)) s

/-- SET 4,B (R256). -/
def execSet_4_B (s : State) : StepResult :=
  engine (cbDesc 0xE0 8 gxxxx) (microSet .i4 (.reg .B)) s

/-- SET 4,C (R256). -/
def execSet_4_C (s : State) : StepResult :=
  engine (cbDesc 0xE1 8 gxxxx) (microSet .i4 (.reg .C)) s

/-- SET 4,D (R256). -/
def execSet_4_D (s : State) : StepResult :=
  engine (cbDesc 0xE2 8 gxxxx) (microSet .i4 (.reg .D)) s

/-- SET 4,E (R256). -/
def execSet_4_E (s : State) : StepResult :=
  engine (cbDesc 0xE3 8 gxxxx) (microSet .i4 (.reg .E)) s

/-- SET 4,H (R256). -/
def execSet_4_H (s : State) : StepResult :=
  engine (cbDesc 0xE4 8 gxxxx) (microSet .i4 (.reg .H)) s

/-- SET 4,L (R256). -/
def execSet_4_L (s : State) : StepResult :=
  engine (cbDesc 0xE5 8 gxxxx) (microSet .i4 (.reg .L)) s

/-- SET 4,(HL) (R257). -/
def execSet_4_atHL (s : State) : StepResult :=
  engine (cbDesc 0xE6 16 gxxxx) (microSet .i4 .atHL) s

/-- SET 4,A (R256). -/
def execSet_4_A (s : State) : StepResult :=
  engine (cbDesc 0xE7 8 gxxxx) (microSet .i4 (.reg .A)) s

/-- SET 5,B (R256). -/
def execSet_5_B (s : State) : StepResult :=
  engine (cbDesc 0xE8 8 gxxxx) (microSet .i5 (.reg .B)) s

/-- SET 5,C (R256). -/
def execSet_5_C (s : State) : StepResult :=
  engine (cbDesc 0xE9 8 gxxxx) (microSet .i5 (.reg .C)) s

/-- SET 5,D (R256). -/
def execSet_5_D (s : State) : StepResult :=
  engine (cbDesc 0xEA 8 gxxxx) (microSet .i5 (.reg .D)) s

/-- SET 5,E (R256). -/
def execSet_5_E (s : State) : StepResult :=
  engine (cbDesc 0xEB 8 gxxxx) (microSet .i5 (.reg .E)) s

/-- SET 5,H (R256). -/
def execSet_5_H (s : State) : StepResult :=
  engine (cbDesc 0xEC 8 gxxxx) (microSet .i5 (.reg .H)) s

/-- SET 5,L (R256). -/
def execSet_5_L (s : State) : StepResult :=
  engine (cbDesc 0xED 8 gxxxx) (microSet .i5 (.reg .L)) s

/-- SET 5,(HL) (R257). -/
def execSet_5_atHL (s : State) : StepResult :=
  engine (cbDesc 0xEE 16 gxxxx) (microSet .i5 .atHL) s

/-- SET 5,A (R256). -/
def execSet_5_A (s : State) : StepResult :=
  engine (cbDesc 0xEF 8 gxxxx) (microSet .i5 (.reg .A)) s

/-- SET 6,B (R256). -/
def execSet_6_B (s : State) : StepResult :=
  engine (cbDesc 0xF0 8 gxxxx) (microSet .i6 (.reg .B)) s

/-- SET 6,C (R256). -/
def execSet_6_C (s : State) : StepResult :=
  engine (cbDesc 0xF1 8 gxxxx) (microSet .i6 (.reg .C)) s

/-- SET 6,D (R256). -/
def execSet_6_D (s : State) : StepResult :=
  engine (cbDesc 0xF2 8 gxxxx) (microSet .i6 (.reg .D)) s

/-- SET 6,E (R256). -/
def execSet_6_E (s : State) : StepResult :=
  engine (cbDesc 0xF3 8 gxxxx) (microSet .i6 (.reg .E)) s

/-- SET 6,H (R256). -/
def execSet_6_H (s : State) : StepResult :=
  engine (cbDesc 0xF4 8 gxxxx) (microSet .i6 (.reg .H)) s

/-- SET 6,L (R256). -/
def execSet_6_L (s : State) : StepResult :=
  engine (cbDesc 0xF5 8 gxxxx) (microSet .i6 (.reg .L)) s

/-- SET 6,(HL) (R257). -/
def execSet_6_atHL (s : State) : StepResult :=
  engine (cbDesc 0xF6 16 gxxxx) (microSet .i6 .atHL) s

/-- SET 6,A (R256). -/
def execSet_6_A (s : State) : StepResult :=
  engine (cbDesc 0xF7 8 gxxxx) (microSet .i6 (.reg .A)) s

/-- SET 7,B (R256). -/
def execSet_7_B (s : State) : StepResult :=
  engine (cbDesc 0xF8 8 gxxxx) (microSet .i7 (.reg .B)) s

/-- SET 7,C (R256). -/
def execSet_7_C (s : State) : StepResult :=
  engine (cbDesc 0xF9 8 gxxxx) (microSet .i7 (.reg .C)) s

/-- SET 7,D (R256). -/
def execSet_7_D (s : State) : StepResult :=
  engine (cbDesc 0xFA 8 gxxxx) (microSet .i7 (.reg .D)) s

/-- SET 7,E (R256). -/
def execSet_7_E (s : State) : StepResult :=
  engine (cbDesc 0xFB 8 gxxxx) (microSet .i7 (.reg .E)) s

/-- SET 7,H (R256). -/
def execSet_7_H (s : State) : StepResult :=
  engine (cbDesc 0xFC 8 gxxxx) (microSet .i7 (.reg .H)) s

/-- SET 7,L (R256). -/
def execSet_7_L (s : State) : StepResult :=
  engine (cbDesc 0xFD 8 gxxxx) (microSet .i7 (.reg .L)) s

/-- SET 7,(HL) (R257). -/
def execSet_7_atHL (s : State) : StepResult :=
  engine (cbDesc 0xFE 16 gxxxx) (microSet .i7 .atHL) s

/-- SET 7,A (R256). -/
def execSet_7_A (s : State) : StepResult :=
  engine (cbDesc 0xFF 8 gxxxx) (microSet .i7 (.reg .A)) s

end Sys2Proof.Machine
end

