-- ==== Sys2Proof/Machine/System.lean ====
section
/-! DEFINITION. The system, interrupt-control and dispatch instructions (47_system.md). -/

namespace Sys2Proof.Machine

/-- NOP (R290). -/
def microNop : Microcode := fun s => { state := s }

/-- HALT and STOP (R291, R292): the core's view of both is HALTED <- 1. -/
def microHalt : Microcode := fun s => { state := { s with halted := true } }

/-- DI and EI (R293, R294): IME at once, and the run state is not changed. -/
def microSetIme (on : Bool) : Microcode := fun s => { state := { s with ime := on } }

/-- An unassigned primary opcode (R296): FAULT records the opcode and its address, and nothing else changes. -/
def raiseInvalidOpcode (opcode : Byte) (s : State) : StepResult :=
  .next (s.raiseFault (.invalidOpcode opcode s.pc))

/-- PREFIX CB (R295): the second byte is read and its entry of the CB table runs, with that entry's length, cost and flag
effects. The decoder takes the pair of bytes as the CB instruction itself, so this meaning is the table's own row. -/
def execPrefix_CB (s : State) : StepResult :=
  let entry := cbEntry (s.memRead .imm1 (s.pc + 1#16))
  engine entry.1 entry.2 s

/-- NOP (R290). -/
def execNop (s : State) : StepResult :=
  engine (primaryDesc 0x00 1 4 gxxxx) microNop s

/-- STOP (R292). -/
def execStop (_n : Byte) (s : State) : StepResult :=
  engine (primaryDesc 0x10 2 4 gxxxx) microHalt s

/-- HALT (R291). -/
def execHalt (s : State) : StepResult :=
  engine (primaryDesc 0x76 1 4 gxxxx) microHalt s

/-- INVALID, the byte 0xD3 (R296). -/
def execInvalid_D3 (s : State) : StepResult :=
  raiseInvalidOpcode 0xD3#8 s

/-- INVALID, the byte 0xDB (R296). -/
def execInvalid_DB (s : State) : StepResult :=
  raiseInvalidOpcode 0xDB#8 s

/-- INVALID, the byte 0xDD (R296). -/
def execInvalid_DD (s : State) : StepResult :=
  raiseInvalidOpcode 0xDD#8 s

/-- INVALID, the byte 0xE3 (R296). -/
def execInvalid_E3 (s : State) : StepResult :=
  raiseInvalidOpcode 0xE3#8 s

/-- INVALID, the byte 0xE4 (R296). -/
def execInvalid_E4 (s : State) : StepResult :=
  raiseInvalidOpcode 0xE4#8 s

/-- INVALID, the byte 0xEB (R296). -/
def execInvalid_EB (s : State) : StepResult :=
  raiseInvalidOpcode 0xEB#8 s

/-- INVALID, the byte 0xEC (R296). -/
def execInvalid_EC (s : State) : StepResult :=
  raiseInvalidOpcode 0xEC#8 s

/-- INVALID, the byte 0xED (R296). -/
def execInvalid_ED (s : State) : StepResult :=
  raiseInvalidOpcode 0xED#8 s

/-- DI (R293). -/
def execDi (s : State) : StepResult :=
  engine (primaryDesc 0xF3 1 4 gxxxx) (microSetIme false) s

/-- INVALID, the byte 0xF4 (R296). -/
def execInvalid_F4 (s : State) : StepResult :=
  raiseInvalidOpcode 0xF4#8 s

/-- EI (R294). -/
def execEi (s : State) : StepResult :=
  engine (primaryDesc 0xFB 1 4 gxxxx) (microSetIme true) s

/-- INVALID, the byte 0xFC (R296). -/
def execInvalid_FC (s : State) : StepResult :=
  raiseInvalidOpcode 0xFC#8 s

/-- INVALID, the byte 0xFD (R296). -/
def execInvalid_FD (s : State) : StepResult :=
  raiseInvalidOpcode 0xFD#8 s

end Sys2Proof.Machine
end

