-- ==== Sys2Proof/Machine/Boundary.lean ====
section
/-! DEFINITION. What happens at an instruction boundary (40_execution_engine.md R100, R109; 60_exceptions.md R310, R320):
a move of the interrupt collaborator, or a step of the core. -/

namespace Sys2Proof.Machine

/-- A step of the core whose FAULT is none (R100): idle while halted, otherwise fetch and execute. -/
def coreStep (s : State) : StepResult :=
  if s.halted then .next s.idle else exec s.fetch s

/-- What happens at a boundary where the collaborator wants to make the move `m`. A move that is not enabled (R311, R313) is
no move of the machine, so the core takes its step (log entry 4). -/
def boundaryMove (m : CollaboratorMove) (s : State) : StepResult :=
  match m with
  | .pass => coreStep s
  | .vector v => if s.vectorEnabled v then .next (s.dispatchInterrupt v) else coreStep s
  | .wake => if s.wakeEnabled then .next s.wakeUp else coreStep s

/-- The collaborator's move at the next boundary. -/
def Schedule.head : Schedule → CollaboratorMove
  | .quiet => .pass
  | .first m _ => m
  | .again m _ => m
  | .free n => Config.collaboratorMove n

/-- What the schedule holds for the boundaries after the next one. A period is turned round by one move. -/
def Schedule.tail : Schedule → Schedule
  | .quiet => .quiet
  | .first _ rest => rest
  | .again m [] => .again m []
  | .again m (x :: later) => .again x (later ++ [m])
  | .free n => .free (n + 1)

/-- One transition: none once FAULT is set (R114, R306); otherwise the schedule's next move is taken off it and happens, or
the core takes its step. -/
def boundaryStep (s : State) : StepResult :=
  match s.fault with
  | some r => .fault r
  | none => boundaryMove s.schedule.head { s with schedule := s.schedule.tail }

/-- The state with three bytes stored from an address on, at plain cells. -/
def State.storeBytes (s : State) (a : Word) : List Byte → State
  | [] => s
  | v :: rest => State.storeBytes (s.memWrite a v) (a + 1#16) rest

/-- Memory made plain if one of the three bytes at pc is a volatile cell, which no store could fix (R59). -/
def State.withPlainFetch (s : State) : State :=
  if s.isVolatile s.pc || s.isVolatile (s.pc + 1#16) || s.isVolatile (s.pc + 2#16) then
    { s with launch := { s.launch with memoryOracle := .flat } }
  else s

/-- The state in which the next step fetches the given bytes: they stand at pc, the core is running, no fault is recorded
and no move of the collaborator comes before it. -/
def State.withFetchBytes (s : State) (bytes : List Byte) : State :=
  let s1 := s.withPlainFetch
  { s1.storeBytes s.pc bytes with halted := false, fault := none, schedule := .quiet }

end Sys2Proof.Machine
end

