-- ==== Sys2Proof/Machine/Step.lean ====
section
/-! DEFINITION. The step function, and the state whose next step runs a given table word. -/

namespace Sys2Proof.Machine

/-- One step of the machine: what happens at this instruction boundary. -/
def step (s : State) : Host.Outcome State Fault Refusal := boundaryStep s

/-- The state with the instruction of a table word (`tableWordBytes`) stored where `step` fetches its next instruction. -/
def State.withFetchWord (s : State) (nbits w : Nat) : State := s.withFetchBytes (tableWordBytes nbits w)

end Sys2Proof.Machine
end

