-- ==== Sys2Proof/Machine/Descriptors.lean ====
section
/-! DEFINITION. The per-opcode descriptor table of 30_encoding.md R95 (primary) and R84 (CB), as ONE table beside the
meanings. No meaning reads it: each writes its own descriptor down. Statements hold every meaning against it. -/

namespace Sys2Proof.Machine

/-! One row of sixteen entries for each high nibble; `none` where R95 gives no cost (INVALID and PREFIX CB). -/

/-- R95, opcodes 0x00 to 0x0F. -/
def descriptorRow0 : List (Option Descriptor) :=
  [ some (primaryDesc 0x00 1 4 gxxxx),
    some (primaryDesc 0x01 3 12 gxxxx),
    some (primaryDesc 0x02 1 8 gxxxx),
    some (primaryDesc 0x03 1 8 gxxxx),
    some (primaryDesc 0x04 1 4 gZ0Hx),
    some (primaryDesc 0x05 1 4 gZ1Hx),
    some (primaryDesc 0x06 2 8 gxxxx),
    some (primaryDesc 0x07 1 4 g000C),
    some (primaryDesc 0x08 3 20 gxxxx),
    some (primaryDesc 0x09 1 8 gx0HC),
    some (primaryDesc 0x0A 1 8 gxxxx),
    some (primaryDesc 0x0B 1 8 gxxxx),
    some (primaryDesc 0x0C 1 4 gZ0Hx),
    some (primaryDesc 0x0D 1 4 gZ1Hx),
    some (primaryDesc 0x0E 2 8 gxxxx),
    some (primaryDesc 0x0F 1 4 g000C) ]

/-- R95, opcodes 0x10 to 0x1F. -/
def descriptorRow1 : List (Option Descriptor) :=
  [ some (primaryDesc 0x10 2 4 gxxxx),
    some (primaryDesc 0x11 3 12 gxxxx),
    some (primaryDesc 0x12 1 8 gxxxx),
    some (primaryDesc 0x13 1 8 gxxxx),
    some (primaryDesc 0x14 1 4 gZ0Hx),
    some (primaryDesc 0x15 1 4 gZ1Hx),
    some (primaryDesc 0x16 2 8 gxxxx),
    some (primaryDesc 0x17 1 4 g000C),
    some (primaryDesc 0x18 2 12 gxxxx),
    some (primaryDesc 0x19 1 8 gx0HC),
    some (primaryDesc 0x1A 1 8 gxxxx),
    some (primaryDesc 0x1B 1 8 gxxxx),
    some (primaryDesc 0x1C 1 4 gZ0Hx),
    some (primaryDesc 0x1D 1 4 gZ1Hx),
    some (primaryDesc 0x1E 2 8 gxxxx),
    some (primaryDesc 0x1F 1 4 g000C) ]

/-- R95, opcodes 0x20 to 0x2F. -/
def descriptorRow2 : List (Option Descriptor) :=
  [ some (branchDesc 0x20 2 12 8),
    some (primaryDesc 0x21 3 12 gxxxx),
    some (primaryDesc 0x22 1 8 gxxxx),
    some (primaryDesc 0x23 1 8 gxxxx),
    some (primaryDesc 0x24 1 4 gZ0Hx),
    some (primaryDesc 0x25 1 4 gZ1Hx),
    some (primaryDesc 0x26 2 8 gxxxx),
    some (primaryDesc 0x27 1 4 gZx0C),
    some (branchDesc 0x28 2 12 8),
    some (primaryDesc 0x29 1 8 gx0HC),
    some (primaryDesc 0x2A 1 8 gxxxx),
    some (primaryDesc 0x2B 1 8 gxxxx),
    some (primaryDesc 0x2C 1 4 gZ0Hx),
    some (primaryDesc 0x2D 1 4 gZ1Hx),
    some (primaryDesc 0x2E 2 8 gxxxx),
    some (primaryDesc 0x2F 1 4 gx11x) ]

/-- R95, opcodes 0x30 to 0x3F. -/
def descriptorRow3 : List (Option Descriptor) :=
  [ some (branchDesc 0x30 2 12 8),
    some (primaryDesc 0x31 3 12 gxxxx),
    some (primaryDesc 0x32 1 8 gxxxx),
    some (primaryDesc 0x33 1 8 gxxxx),
    some (primaryDesc 0x34 1 12 gZ0Hx),
    some (primaryDesc 0x35 1 12 gZ1Hx),
    some (primaryDesc 0x36 2 12 gxxxx),
    some (primaryDesc 0x37 1 4 gx001),
    some (branchDesc 0x38 2 12 8),
    some (primaryDesc 0x39 1 8 gx0HC),
    some (primaryDesc 0x3A 1 8 gxxxx),
    some (primaryDesc 0x3B 1 8 gxxxx),
    some (primaryDesc 0x3C 1 4 gZ0Hx),
    some (primaryDesc 0x3D 1 4 gZ1Hx),
    some (primaryDesc 0x3E 2 8 gxxxx),
    some (primaryDesc 0x3F 1 4 gx00C) ]

/-- R95, opcodes 0x40 to 0x4F. -/
def descriptorRow4 : List (Option Descriptor) :=
  [ some (primaryDesc 0x40 1 4 gxxxx),
    some (primaryDesc 0x41 1 4 gxxxx),
    some (primaryDesc 0x42 1 4 gxxxx),
    some (primaryDesc 0x43 1 4 gxxxx),
    some (primaryDesc 0x44 1 4 gxxxx),
    some (primaryDesc 0x45 1 4 gxxxx),
    some (primaryDesc 0x46 1 8 gxxxx),
    some (primaryDesc 0x47 1 4 gxxxx),
    some (primaryDesc 0x48 1 4 gxxxx),
    some (primaryDesc 0x49 1 4 gxxxx),
    some (primaryDesc 0x4A 1 4 gxxxx),
    some (primaryDesc 0x4B 1 4 gxxxx),
    some (primaryDesc 0x4C 1 4 gxxxx),
    some (primaryDesc 0x4D 1 4 gxxxx),
    some (primaryDesc 0x4E 1 8 gxxxx),
    some (primaryDesc 0x4F 1 4 gxxxx) ]

/-- R95, opcodes 0x50 to 0x5F. -/
def descriptorRow5 : List (Option Descriptor) :=
  [ some (primaryDesc 0x50 1 4 gxxxx),
    some (primaryDesc 0x51 1 4 gxxxx),
    some (primaryDesc 0x52 1 4 gxxxx),
    some (primaryDesc 0x53 1 4 gxxxx),
    some (primaryDesc 0x54 1 4 gxxxx),
    some (primaryDesc 0x55 1 4 gxxxx),
    some (primaryDesc 0x56 1 8 gxxxx),
    some (primaryDesc 0x57 1 4 gxxxx),
    some (primaryDesc 0x58 1 4 gxxxx),
    some (primaryDesc 0x59 1 4 gxxxx),
    some (primaryDesc 0x5A 1 4 gxxxx),
    some (primaryDesc 0x5B 1 4 gxxxx),
    some (primaryDesc 0x5C 1 4 gxxxx),
    some (primaryDesc 0x5D 1 4 gxxxx),
    some (primaryDesc 0x5E 1 8 gxxxx),
    some (primaryDesc 0x5F 1 4 gxxxx) ]

/-- R95, opcodes 0x60 to 0x6F. -/
def descriptorRow6 : List (Option Descriptor) :=
  [ some (primaryDesc 0x60 1 4 gxxxx),
    some (primaryDesc 0x61 1 4 gxxxx),
    some (primaryDesc 0x62 1 4 gxxxx),
    some (primaryDesc 0x63 1 4 gxxxx),
    some (primaryDesc 0x64 1 4 gxxxx),
    some (primaryDesc 0x65 1 4 gxxxx),
    some (primaryDesc 0x66 1 8 gxxxx),
    some (primaryDesc 0x67 1 4 gxxxx),
    some (primaryDesc 0x68 1 4 gxxxx),
    some (primaryDesc 0x69 1 4 gxxxx),
    some (primaryDesc 0x6A 1 4 gxxxx),
    some (primaryDesc 0x6B 1 4 gxxxx),
    some (primaryDesc 0x6C 1 4 gxxxx),
    some (primaryDesc 0x6D 1 4 gxxxx),
    some (primaryDesc 0x6E 1 8 gxxxx),
    some (primaryDesc 0x6F 1 4 gxxxx) ]

/-- R95, opcodes 0x70 to 0x7F. -/
def descriptorRow7 : List (Option Descriptor) :=
  [ some (primaryDesc 0x70 1 8 gxxxx),
    some (primaryDesc 0x71 1 8 gxxxx),
    some (primaryDesc 0x72 1 8 gxxxx),
    some (primaryDesc 0x73 1 8 gxxxx),
    some (primaryDesc 0x74 1 8 gxxxx),
    some (primaryDesc 0x75 1 8 gxxxx),
    some (primaryDesc 0x76 1 4 gxxxx),
    some (primaryDesc 0x77 1 8 gxxxx),
    some (primaryDesc 0x78 1 4 gxxxx),
    some (primaryDesc 0x79 1 4 gxxxx),
    some (primaryDesc 0x7A 1 4 gxxxx),
    some (primaryDesc 0x7B 1 4 gxxxx),
    some (primaryDesc 0x7C 1 4 gxxxx),
    some (primaryDesc 0x7D 1 4 gxxxx),
    some (primaryDesc 0x7E 1 8 gxxxx),
    some (primaryDesc 0x7F 1 4 gxxxx) ]

/-- R95, opcodes 0x80 to 0x8F. -/
def descriptorRow8 : List (Option Descriptor) :=
  [ some (primaryDesc 0x80 1 4 gZ0HC),
    some (primaryDesc 0x81 1 4 gZ0HC),
    some (primaryDesc 0x82 1 4 gZ0HC),
    some (primaryDesc 0x83 1 4 gZ0HC),
    some (primaryDesc 0x84 1 4 gZ0HC),
    some (primaryDesc 0x85 1 4 gZ0HC),
    some (primaryDesc 0x86 1 8 gZ0HC),
    some (primaryDesc 0x87 1 4 gZ0HC),
    some (primaryDesc 0x88 1 4 gZ0HC),
    some (primaryDesc 0x89 1 4 gZ0HC),
    some (primaryDesc 0x8A 1 4 gZ0HC),
    some (primaryDesc 0x8B 1 4 gZ0HC),
    some (primaryDesc 0x8C 1 4 gZ0HC),
    some (primaryDesc 0x8D 1 4 gZ0HC),
    some (primaryDesc 0x8E 1 8 gZ0HC),
    some (primaryDesc 0x8F 1 4 gZ0HC) ]

/-- R95, opcodes 0x90 to 0x9F. -/
def descriptorRow9 : List (Option Descriptor) :=
  [ some (primaryDesc 0x90 1 4 gZ1HC),
    some (primaryDesc 0x91 1 4 gZ1HC),
    some (primaryDesc 0x92 1 4 gZ1HC),
    some (primaryDesc 0x93 1 4 gZ1HC),
    some (primaryDesc 0x94 1 4 gZ1HC),
    some (primaryDesc 0x95 1 4 gZ1HC),
    some (primaryDesc 0x96 1 8 gZ1HC),
    some (primaryDesc 0x97 1 4 gZ1HC),
    some (primaryDesc 0x98 1 4 gZ1HC),
    some (primaryDesc 0x99 1 4 gZ1HC),
    some (primaryDesc 0x9A 1 4 gZ1HC),
    some (primaryDesc 0x9B 1 4 gZ1HC),
    some (primaryDesc 0x9C 1 4 gZ1HC),
    some (primaryDesc 0x9D 1 4 gZ1HC),
    some (primaryDesc 0x9E 1 8 gZ1HC),
    some (primaryDesc 0x9F 1 4 gZ1HC) ]

/-- R95, opcodes 0xA0 to 0xAF. -/
def descriptorRowA : List (Option Descriptor) :=
  [ some (primaryDesc 0xA0 1 4 gZ010),
    some (primaryDesc 0xA1 1 4 gZ010),
    some (primaryDesc 0xA2 1 4 gZ010),
    some (primaryDesc 0xA3 1 4 gZ010),
    some (primaryDesc 0xA4 1 4 gZ010),
    some (primaryDesc 0xA5 1 4 gZ010),
    some (primaryDesc 0xA6 1 8 gZ010),
    some (primaryDesc 0xA7 1 4 gZ010),
    some (primaryDesc 0xA8 1 4 gZ000),
    some (primaryDesc 0xA9 1 4 gZ000),
    some (primaryDesc 0xAA 1 4 gZ000),
    some (primaryDesc 0xAB 1 4 gZ000),
    some (primaryDesc 0xAC 1 4 gZ000),
    some (primaryDesc 0xAD 1 4 gZ000),
    some (primaryDesc 0xAE 1 8 gZ000),
    some (primaryDesc 0xAF 1 4 gZ000) ]

/-- R95, opcodes 0xB0 to 0xBF. -/
def descriptorRowB : List (Option Descriptor) :=
  [ some (primaryDesc 0xB0 1 4 gZ000),
    some (primaryDesc 0xB1 1 4 gZ000),
    some (primaryDesc 0xB2 1 4 gZ000),
    some (primaryDesc 0xB3 1 4 gZ000),
    some (primaryDesc 0xB4 1 4 gZ000),
    some (primaryDesc 0xB5 1 4 gZ000),
    some (primaryDesc 0xB6 1 8 gZ000),
    some (primaryDesc 0xB7 1 4 gZ000),
    some (primaryDesc 0xB8 1 4 gZ1HC),
    some (primaryDesc 0xB9 1 4 gZ1HC),
    some (primaryDesc 0xBA 1 4 gZ1HC),
    some (primaryDesc 0xBB 1 4 gZ1HC),
    some (primaryDesc 0xBC 1 4 gZ1HC),
    some (primaryDesc 0xBD 1 4 gZ1HC),
    some (primaryDesc 0xBE 1 8 gZ1HC),
    some (primaryDesc 0xBF 1 4 gZ1HC) ]

/-- R95, opcodes 0xC0 to 0xCF. -/
def descriptorRowC : List (Option Descriptor) :=
  [ some (branchDesc 0xC0 1 20 8),
    some (primaryDesc 0xC1 1 12 gxxxx),
    some (branchDesc 0xC2 3 16 12),
    some (primaryDesc 0xC3 3 16 gxxxx),
    some (branchDesc 0xC4 3 24 12),
    some (primaryDesc 0xC5 1 16 gxxxx),
    some (primaryDesc 0xC6 2 8 gZ0HC),
    some (primaryDesc 0xC7 1 16 gxxxx),
    some (branchDesc 0xC8 1 20 8),
    some (primaryDesc 0xC9 1 16 gxxxx),
    some (branchDesc 0xCA 3 16 12),
    none,
    some (branchDesc 0xCC 3 24 12),
    some (primaryDesc 0xCD 3 24 gxxxx),
    some (primaryDesc 0xCE 2 8 gZ0HC),
    some (primaryDesc 0xCF 1 16 gxxxx) ]

/-- R95, opcodes 0xD0 to 0xDF. -/
def descriptorRowD : List (Option Descriptor) :=
  [ some (branchDesc 0xD0 1 20 8),
    some (primaryDesc 0xD1 1 12 gxxxx),
    some (branchDesc 0xD2 3 16 12),
    none,
    some (branchDesc 0xD4 3 24 12),
    some (primaryDesc 0xD5 1 16 gxxxx),
    some (primaryDesc 0xD6 2 8 gZ1HC),
    some (primaryDesc 0xD7 1 16 gxxxx),
    some (branchDesc 0xD8 1 20 8),
    some (primaryDesc 0xD9 1 16 gxxxx),
    some (branchDesc 0xDA 3 16 12),
    none,
    some (branchDesc 0xDC 3 24 12),
    none,
    some (primaryDesc 0xDE 2 8 gZ1HC),
    some (primaryDesc 0xDF 1 16 gxxxx) ]

/-- R95, opcodes 0xE0 to 0xEF. -/
def descriptorRowE : List (Option Descriptor) :=
  [ some (primaryDesc 0xE0 2 12 gxxxx),
    some (primaryDesc 0xE1 1 12 gxxxx),
    some (primaryDesc 0xE2 1 8 gxxxx),
    none,
    none,
    some (primaryDesc 0xE5 1 16 gxxxx),
    some (primaryDesc 0xE6 2 8 gZ010),
    some (primaryDesc 0xE7 1 16 gxxxx),
    some (primaryDesc 0xE8 2 16 g00HC),
    some (primaryDesc 0xE9 1 4 gxxxx),
    some (primaryDesc 0xEA 3 16 gxxxx),
    none,
    none,
    none,
    some (primaryDesc 0xEE 2 8 gZ000),
    some (primaryDesc 0xEF 1 16 gxxxx) ]

/-- R95, opcodes 0xF0 to 0xFF. -/
def descriptorRowF : List (Option Descriptor) :=
  [ some (primaryDesc 0xF0 2 12 gxxxx),
    some (primaryDesc 0xF1 1 12 gZNHC),
    some (primaryDesc 0xF2 1 8 gxxxx),
    some (primaryDesc 0xF3 1 4 gxxxx),
    none,
    some (primaryDesc 0xF5 1 16 gxxxx),
    some (primaryDesc 0xF6 2 8 gZ000),
    some (primaryDesc 0xF7 1 16 gxxxx),
    some (primaryDesc 0xF8 2 12 g00HC),
    some (primaryDesc 0xF9 1 8 gxxxx),
    some (primaryDesc 0xFA 3 16 gxxxx),
    some (primaryDesc 0xFB 1 4 gxxxx),
    none,
    none,
    some (primaryDesc 0xFE 2 8 gZ1HC),
    some (primaryDesc 0xFF 1 16 gxxxx) ]

/-- The table of R95. -/
def descriptorTable : List (List (Option Descriptor)) :=
  [ descriptorRow0, descriptorRow1, descriptorRow2, descriptorRow3, descriptorRow4, descriptorRow5, descriptorRow6, descriptorRow7,
    descriptorRow8, descriptorRow9, descriptorRowA, descriptorRowB, descriptorRowC, descriptorRowD, descriptorRowE, descriptorRowF ]

/-- The descriptor of a CB entry, by the structure of R84: the group x = cbop[7:6] gives the effect string (SWAP apart), and
the operand cbop[2:0] the ticks. -/
def cbDescriptor (cbop : Nat) : Descriptor :=
  let atHL := cbop % 8 == 6
  match cbop / 64 with
  | 0 => cbDesc cbop (if atHL then 16 else 8) (if cbop / 8 == 6 then gZ000 else gZ00C)
  | 1 => cbDesc cbop (if atHL then 12 else 8) gZ01x
  | _ => cbDesc cbop (if atHL then 16 else 8) gxxxx

/-- The descriptor of an instruction: the primary entry of its first byte, or after the prefix the CB entry of its second.
None for the unassigned opcodes and for the prefix alone. -/
def descriptor (i : Instr) : Option Descriptor :=
  match encode i with
  | [] => none
  | b0 :: rest =>
    if b0 = 0xCB#8 then rest.head?.map fun b1 => cbDescriptor b1.toNat
    else tableEntry descriptorTable none b0

end Sys2Proof.Machine
end

