-- ==== Sys2Proof/Safety.lean ====
section
/-! DEFINITION. What counts as a legal state and a normal run, in the terms that statements use: the invariant of every
state, the clean entry (70_reset_and_hazards.md R362), the normal end (R361), and states that agree but for timing
(R352). -/

namespace Sys2Proof.Machine

/-- Bits 3 to 0 of F are 0 (10_state.md R26). -/
def State.flagLowZero (s : State) : Bool := (s.f &&& 0x0F#8) == 0#8

/-- FAULT holds what a step can put there: none, or InvalidOpcode with one of the eleven bytes of R87 and the pc that the
state still holds (R304). -/
def State.faultPrecise (s : State) : Bool :=
  match s.fault with
  | none => true
  | some (.invalidOpcode op p) => (Instr.invalidOpcodes.map Prod.snd).contains op && p == s.pc
  | some .operandRangeViolation => false
  | some .unimplemented => false

/-- The invariant of every state of a run: F's low bits, memory's canonical form, and a precise fault record. -/
def State.inv (s : State) : Bool := s.flagLowZero && s.mem.wf && s.faultPrecise

/-- The clean-entry record that every claim takes as a premise (R362). -/
def State.cleanEntry (s : State) : Bool :=
  s.fault.isNone && !s.halted && s.ticks == 0 && !s.ime

/-- The boundary at which a run ends normally, for the END of its launch (R361). -/
def State.normalEnd (s : State) : Bool :=
  s.fault.isNone && !s.halted && s.launch.endAddress == some s.pc

/-- The state with everything that is timing removed: the clock and the three timing parameters (R352). -/
def State.withoutTiming (s : State) : State :=
  { s with
    ticks := 0
    launch := { s.launch with cycles := [], haltIdleTicks := 0, intDispatchTicks := 0 } }

end Sys2Proof.Machine
end

