-- ==== Sys2Proof/Certificates/Slice0/Obligations.lean ====
section
/-! DEFINITION. The statements for the provers, from the spec's numbered rules. The helpers in the first part say results in
plain arithmetic, apart from the model's own flag and shift operations. -/

open Sys2Proof Sys2Proof.Machine

namespace Sys2Proof.Statements

/-- A number as a byte. -/
def byte (n : Nat) : Byte := BitVec.ofNat 8 n

/-- The flags of a flag byte by their bits (R26). -/
def zOf (s : State) : Bool := s.f.getLsbD 7
/-- N is bit 6 (R26). -/
def nOf (s : State) : Bool := s.f.getLsbD 6
/-- H is bit 5 (R26). -/
def hOf (s : State) : Bool := s.f.getLsbD 5
/-- C is bit 4 (R26). -/
def cOf (s : State) : Bool := s.f.getLsbD 4

/-- The flag byte that holds four flags, as a sum of powers of two (R26). -/
def flagByte (z n h c : Bool) : Byte :=
  byte (z.toNat * 128 + n.toNat * 64 + h.toNat * 32 + c.toNat * 16)

/-- F after an instruction that changes no flag: bits 3 to 0 are 0 (R26, R101), the flags stay. -/
def keptF (s : State) : Byte := s.f &&& 0xF0#8

/-- The ticks that the launch charges for a row, where the default is a fixed cost (R107). -/
def fixedTicks (s : State) (i : Instr) (n : Nat) : Nat := cycleCost s.launch i.row ⟨n, n⟩ false

/-- The ticks of a branch, taken or not (R107); an unconditional one is always taken and has one default. -/
def branchTicks (s : State) (i : Instr) (taken notTaken : Nat) (wasTaken : Bool) : Nat :=
  cycleCost s.launch i.row ⟨taken, notTaken⟩ wasTaken

/-- The state after an instruction: `u` is the start state with the instruction's own register writes, to which come the new
F, the new pc, the ticks, and one more completed instruction in the model's own draw index. Everything else is as in
the start state. -/
def finish (u : State) (f : Byte) (pc : Word) (ticks : Nat) : State :=
  { u with f := f, pc := pc, ticks := u.ticks + ticks, draws := u.draws + 1 }

/-- The frame of memory: after the step every one of the 65,536 cells is known to hold what it held before, but for the cells
listed, which hold the byte beside them. A volatile cell (R59) is known to hold nothing, before and after. -/
def Stores (s t : State) (cells : List (Word × Byte)) : Prop :=
  ∀ a : Word, t.peek a = (s.peek a).map fun old => (cells.lookup a).getD old

/-- `i` completes from `s`: in all but memory the next state is `u`, and memory changes in the cells listed and in no other. -/
def CompletesStoring (i : Instr) (s u : State) (cells : List (Word × Byte)) : Prop :=
  ∃ t, exec i s = .next t ∧ { t with mem := s.mem } = u ∧ Stores s t cells

/-- The second operand of an ALU instruction (R174): d8 is the instruction's own byte. -/
def aluValue (src : AluSource) (s : State) : Byte :=
  match src with
  | .reg r => s.reg8 r
  | .atHL => s.memRead .data1 (s.pair .HL)
  | .imm n => n

/-- Length and ticks of the three forms (R174). -/
def aluLength : AluSource → Word
  | .reg _ => 1
  | .atHL => 1
  | .imm _ => 2
/-- The default ticks of the three forms (R174). -/
def aluTicks : AluSource → Nat
  | .reg _ => 4
  | .atHL => 8
  | .imm _ => 8

/-- The bytes of the three forms: `10 ooo rrr`, `10 ooo 110`, and `11 ooo 110` with d8 (R174). -/
def aluBytes (op : AluOp) : AluSource → List Byte
  | .reg r => [byte (0x80 + 8 * op.code + r.code)]
  | .atHL => [byte (0x86 + 8 * op.code)]
  | .imm n => [byte (0xC6 + 8 * op.code), n]

/-- The state after an ALU instruction that writes `res` to A and the flag byte `f`. -/
def aluFinish (op : AluOp) (src : AluSource) (s : State) (res : Byte) (f : Byte) : State :=
  finish { s with a := res } f (s.pc + aluLength src) (fixedTicks s (.alu op src) (aluTicks src))

/-- `x < 0` for a difference of naturals, as integers. -/
def below (x y : Nat) : Bool := decide ((x : Int) - (y : Int) < 0)

/-- Rot of R230 in arithmetic: the result and the bit that leaves. -/
def rotArith (op : RotOp) (v : Nat) (cin : Bool) : Nat × Bool :=
  match op with
  | .rlc => (v * 2 % 256 + v / 128, decide (v / 128 = 1))
  | .rrc => (v / 2 + v % 2 * 128, decide (v % 2 = 1))
  | .rl => (v * 2 % 256 + cin.toNat, decide (v / 128 = 1))
  | .rr => (v / 2 + cin.toNat * 128, decide (v % 2 = 1))
  | .sla => (v * 2 % 256, decide (v / 128 = 1))
  | .sra => (v / 2 + v / 128 * 128, decide (v % 2 = 1))
  | .srl => (v / 2, decide (v % 2 = 1))
  | .swap => (v % 16 * 16 + v / 16, false)

/-- The condition of a branch on the flags at instruction start (R270). -/
def condition : Cond → State → Bool
  | .NZ, s => !zOf s
  | .Z, s => zOf s
  | .NC, s => !cOf s
  | .C, s => cOf s

/-- The word that a pop reads: the byte at SP low, the byte at SP + 1 high (R111). -/
def poppedWord (s : State) : Word :=
  cat16 (s.memRead .data2 (s.sp + 1)) (s.memRead .data1 s.sp)

/-- The two cells that a push of `v` writes: the high byte at SP - 1, the low byte at SP - 2 (R110). -/
def pushedCells (s : State) (v : Word) : List (Word × Byte) :=
  [(s.sp - 1, hi8 v), (s.sp - 2, lo8 v)]

/-- H and C of SP + r8: an unsigned add of n to SP's low byte (R153). -/
def spOffsetF (sp : Word) (n : Byte) : Byte :=
  flagByte false false (decide (sp.toNat % 16 + n.toNat % 16 > 15)) (decide (sp.toNat % 256 + n.toNat > 255))

/-- SP plus the signed offset, modulo 2^16 (R10, R153). -/
def plusSigned (w : Word) (n : Byte) : Word :=
  BitVec.ofInt 16 ((w.toNat : Int) + (if n.toNat < 128 then (n.toNat : Int) else (n.toNat : Int) - 256))

/-- DAA's correction (R203): what is added, or after a subtraction subtracted, and the carry. -/
def daaAdjust (s : State) : Nat :=
  if nOf s then (if cOf s then 0x60 else 0) + (if hOf s then 6 else 0)
  else (if cOf s || decide (s.a.toNat > 0x99) then 0x60 else 0) + (if hOf s || decide (s.a.toNat % 16 > 9) then 6 else 0)
/-- The accumulator after DAA (R203). -/
def daaResult (s : State) : Byte :=
  if nOf s then byte (s.a.toNat + 512 - daaAdjust s) else byte (s.a.toNat + daaAdjust s)
/-- C after DAA: set, or left as it was (R203). -/
def daaCarry (s : State) : Bool := cOf s || (!nOf s && decide (s.a.toNat > 0x99))

/-- The two-digit decimal encoding of a number below 100. -/
def bcd (x : Nat) : Byte := byte (x / 10 * 16 + x % 10)

end Sys2Proof.Statements

open Sys2Proof.Statements

/-- BC, DE and HL alias their halves, the first-named register high. Formalises: R21. -/
def Obligations.PairViewsAliasTheirHalves : Prop :=
  ∀ (s : State) (v : Word) (r r' : Reg8) (x : Byte),
    (s.pair .BC).toNat = s.b.toNat * 256 + s.c.toNat ∧
    (s.pair .DE).toNat = s.d.toNat * 256 + s.e.toNat ∧
    (s.pair .HL).toNat = s.h.toNat * 256 + s.l.toNat ∧
    s.setPair .BC v = { s with b := byte (v.toNat / 256), c := byte v.toNat } ∧
    s.setPair .DE v = { s with d := byte (v.toNat / 256), e := byte v.toNat } ∧
    s.setPair .HL v = { s with h := byte (v.toNat / 256), l := byte v.toNat } ∧
    (∀ p, (s.setPair p v).pair p = v) ∧
    (s.setReg8 r x).reg8 r' = (if r' = r then x else s.reg8 r')

/-- Z, N, H and C are bits 7, 6, 5 and 4 of F, and bits 3 to 0 are 0. Formalises: R26. -/
def Obligations.FlagByteHoldsFlagsInItsHighBits : Prop :=
  ∀ (p : Flags), p.toByte = flagByte p.z p.n p.h p.c ∧ p.toByte &&& 0x0F#8 = 0#8 ∧ Flags.ofByte p.toByte = p

/-- The flag write gate forces, keeps or computes each flag, and clears bits 3 to 0 of F. Formalises: 00_scope.md section 5 (flag effects), 40_execution_engine.md section 1 (Commit). -/
def Obligations.GateCommitsEachFlagByItsEffect : Prop :=
  ∀ (g : Gate) (f0 p : Flags),
    let value := fun (e : Effect) (old new : Bool) =>
      (e = .forced1 ∨ (e = .unaffected ∧ old = true) ∨ (e = .computed ∧ new = true))
    ((Flags.ofByte (commit g f0 p)).z = true ↔ value g.z f0.z p.z) ∧
    ((Flags.ofByte (commit g f0 p)).n = true ↔ value g.n f0.n p.n) ∧
    ((Flags.ofByte (commit g f0 p)).h = true ↔ value g.h f0.h p.h) ∧
    ((Flags.ofByte (commit g f0 p)).c = true ↔ value g.c f0.c p.c) ∧
    commit g f0 p &&& 0x0F#8 = 0#8

/-- Construction gives the register values of its profile, with IME, HALTED, ticks and FAULT clear and memory MEM0. Formalises: 70_reset_and_hazards.md section 1 (the reset table). -/
def Obligations.ResetGivesTheProfileValues : Prop :=
  (∀ (launch : Launch) (drawn : PowerOnDraws) (mem0 : Memory) (sched : Schedule),
      let s := State.resetOf launch drawn mem0 sched
      (launch.resetProfile = .postBootDMG →
        s.a = 0x01#8 ∧ s.f = 0xB0#8 ∧ s.b = 0x00#8 ∧ s.c = 0x13#8 ∧ s.d = 0x00#8 ∧ s.e = 0xD8#8 ∧ s.h = 0x01#8 ∧
          s.l = 0x4D#8 ∧ s.sp = 0xFFFE#16 ∧ s.pc = 0x0100#16) ∧
      (launch.resetProfile = .powerOn →
        s.a = drawn.a ∧ s.f.toNat = drawn.f.toNat / 16 * 16 ∧ s.b = drawn.b ∧ s.c = drawn.c ∧ s.d = drawn.d ∧
          s.e = drawn.e ∧ s.h = drawn.h ∧ s.l = drawn.l ∧ s.sp = drawn.sp ∧ s.pc = 0x0000#16) ∧
      s.ime = false ∧ s.halted = false ∧ s.ticks = 0 ∧ s.fault = none ∧ s.mem = mem0) ∧
    State.reset.launch.resetProfile = .postBootDMG

/-- The reset state meets the invariant and the clean-entry record. Formalises: 70_reset_and_hazards.md section 4 (launch premises), 10_state.md section 3. -/
def Obligations.ResetStateIsACleanLegalEntry : Prop :=
  State.reset.inv = true ∧ State.reset.cleanEntry = true

/-- A plain cell reads as the last byte written to it, and a write changes no other cell. Formalises: 20_memory.md section 4 (MEMORY_ORACLE), 20_memory.md section 6. -/
def Obligations.PlainCellReadsItsLastWrite : Prop :=
  ∀ (s : State) (a b : Word) (v : Byte) (k : ReadSlot), s.mem.wf = true → s.isVolatile b = false →
    (s.memWrite a v).memRead k b = (if b = a then v else s.memRead k b) ∧
    { s.memWrite a v with mem := s.mem } = s ∧ (s.memWrite a v).mem.wf = true

/-- LD r,r', LD r,d8 and LD r,(HL) load one register and change nothing else. Formalises: R120, R121, R122. -/
def Obligations.LoadRegisterFromRegisterImmediateOrHL : Prop :=
  ∀ (d r : Reg8) (n : Byte) (s : State),
    (encode (.ldRegReg d r) = [byte (0x40 + 8 * d.code + r.code)] ∧
      encode (.ldRegImm d n) = [byte (0x06 + 8 * d.code), n] ∧ encode (.ldRegAtHL d) = [byte (0x46 + 8 * d.code)]) ∧
    exec (.ldRegReg d r) s =
      .next (finish (s.setReg8 d (s.reg8 r)) (keptF s) (s.pc + 1) (fixedTicks s (.ldRegReg d r) 4)) ∧
    exec (.ldRegImm d n) s =
      .next (finish (s.setReg8 d n) (keptF s) (s.pc + 2) (fixedTicks s (.ldRegImm d n) 8)) ∧
    exec (.ldRegAtHL d) s =
      .next (finish (s.setReg8 d (s.memRead .data1 (s.pair .HL))) (keptF s) (s.pc + 1) (fixedTicks s (.ldRegAtHL d) 8))

/-- LD (HL),r and LD (HL),d8 store one byte at HL and change no other byte of memory. Formalises: R123, R124. -/
def Obligations.StoreRegisterAndImmediateAtHL : Prop :=
  ∀ (s : State), s.mem.wf = true →
    (∀ r, encode (.ldAtHLReg r) = [byte (0x70 + r.code)] ∧
      CompletesStoring (.ldAtHLReg r) s (finish s (keptF s) (s.pc + 1) (fixedTicks s (.ldAtHLReg r) 8))
        [(s.pair .HL, s.reg8 r)]) ∧
    (∀ n, encode (.ld_atHL_d8 n) = [0x36#8, n] ∧
      CompletesStoring (.ld_atHL_d8 n) s (finish s (keptF s) (s.pc + 2) (fixedTicks s (.ld_atHL_d8 n) 12))
        [(s.pair .HL, n)])

/-- LD A,(BC), LD A,(DE), LD A,(a16), LDH A,(a8) and LD A,(C) load A from their addresses. Formalises: R125, R126, R129, R131, R133. -/
def Obligations.LoadAccumulatorFromMemory : Prop :=
  ∀ (s : State) (addr : Word) (n : Byte),
    (encode .ld_A_atBC = [0x0A#8] ∧ encode .ld_A_atDE = [0x1A#8] ∧ encode .ld_A_atC = [0xF2#8] ∧
      encode (.ld_A_atA16 addr) = [0xFA#8, lo8 addr, hi8 addr] ∧ encode (.ldh_A_atA8 n) = [0xF0#8, n]) ∧
    exec .ld_A_atBC s = .next (finish { s with a := s.memRead .data1 (s.pair .BC) } (keptF s) (s.pc + 1)
      (fixedTicks s .ld_A_atBC 8)) ∧
    exec .ld_A_atDE s = .next (finish { s with a := s.memRead .data1 (s.pair .DE) } (keptF s) (s.pc + 1)
      (fixedTicks s .ld_A_atDE 8)) ∧
    exec (.ld_A_atA16 addr) s = .next (finish { s with a := s.memRead .data1 addr } (keptF s) (s.pc + 3)
      (fixedTicks s (.ld_A_atA16 addr) 16)) ∧
    exec (.ldh_A_atA8 n) s = .next (finish { s with a := s.memRead .data1 (BitVec.ofNat 16 (0xFF00 + n.toNat)) } (keptF s)
      (s.pc + 2) (fixedTicks s (.ldh_A_atA8 n) 12)) ∧
    exec .ld_A_atC s = .next (finish { s with a := s.memRead .data1 (BitVec.ofNat 16 (0xFF00 + s.c.toNat)) } (keptF s)
      (s.pc + 1) (fixedTicks s .ld_A_atC 8))

/-- LD (BC),A, LD (DE),A, LD (a16),A, LDH (a8),A and LD (C),A store A and change no other byte. Formalises: R127, R128, R130, R132, R134. -/
def Obligations.StoreAccumulatorToMemory : Prop :=
  ∀ (s : State) (addr : Word) (n : Byte), s.mem.wf = true →
    (encode .ld_atBC_A = [0x02#8] ∧ encode .ld_atDE_A = [0x12#8] ∧ encode .ld_atC_A = [0xE2#8] ∧
      encode (.ld_atA16_A addr) = [0xEA#8, lo8 addr, hi8 addr] ∧ encode (.ldh_atA8_A n) = [0xE0#8, n]) ∧
    CompletesStoring .ld_atBC_A s (finish s (keptF s) (s.pc + 1) (fixedTicks s .ld_atBC_A 8)) [(s.pair .BC, s.a)] ∧
    CompletesStoring .ld_atDE_A s (finish s (keptF s) (s.pc + 1) (fixedTicks s .ld_atDE_A 8)) [(s.pair .DE, s.a)] ∧
    CompletesStoring (.ld_atA16_A addr) s (finish s (keptF s) (s.pc + 3) (fixedTicks s (.ld_atA16_A addr) 16))
      [(addr, s.a)] ∧
    CompletesStoring (.ldh_atA8_A n) s (finish s (keptF s) (s.pc + 2) (fixedTicks s (.ldh_atA8_A n) 12))
      [(BitVec.ofNat 16 (0xFF00 + n.toNat), s.a)] ∧
    CompletesStoring .ld_atC_A s (finish s (keptF s) (s.pc + 1) (fixedTicks s .ld_atC_A 8))
      [(BitVec.ofNat 16 (0xFF00 + s.c.toNat), s.a)]

/-- LD (HL+),A, LD (HL-),A, LD A,(HL+) and LD A,(HL-) use the old HL and step it once, modulo 2^16. Formalises: R135, R136, R137, R138. -/
def Obligations.AutoSteppingLoadsAndStoresStepHLOnce : Prop :=
  ∀ (s : State),
    (encode .ld_atHLinc_A = [0x22#8] ∧ encode .ld_atHLdec_A = [0x32#8] ∧ encode .ld_A_atHLinc = [0x2A#8] ∧
      encode .ld_A_atHLdec = [0x3A#8]) ∧
    (s.mem.wf = true →
      CompletesStoring .ld_atHLinc_A s (finish (s.setPair .HL (s.pair .HL + 1)) (keptF s) (s.pc + 1)
        (fixedTicks s .ld_atHLinc_A 8)) [(s.pair .HL, s.a)] ∧
      CompletesStoring .ld_atHLdec_A s (finish (s.setPair .HL (s.pair .HL - 1)) (keptF s) (s.pc + 1)
        (fixedTicks s .ld_atHLdec_A 8)) [(s.pair .HL, s.a)]) ∧
    exec .ld_A_atHLinc s = .next (finish { s.setPair .HL (s.pair .HL + 1) with a := s.memRead .data1 (s.pair .HL) }
      (keptF s) (s.pc + 1) (fixedTicks s .ld_A_atHLinc 8)) ∧
    exec .ld_A_atHLdec s = .next (finish { s.setPair .HL (s.pair .HL - 1) with a := s.memRead .data1 (s.pair .HL) }
      (keptF s) (s.pc + 1) (fixedTicks s .ld_A_atHLdec 8))

/-- LD rr,d16 loads a 16-bit immediate, low byte first, into BC, DE, HL or SP. Formalises: R150. -/
def Obligations.LoadPairImmediate : Prop :=
  ∀ (p : Pair) (nn : Word) (s : State),
    encode (.ldPairImm p nn) = [byte (0x01 + 16 * p.code), byte nn.toNat, byte (nn.toNat / 256)] ∧
    exec (.ldPairImm p nn) s =
      .next (finish (s.setPair p nn) (keptF s) (s.pc + 3) (fixedTicks s (.ldPairImm p nn) 12))

/-- LD (a16),SP stores SP low byte first at a16 and a16 + 1, modulo 2^16, and changes no other byte. Formalises: R151. -/
def Obligations.StoreStackPointerLittleEndian : Prop :=
  ∀ (s : State) (addr : Word), s.mem.wf = true →
    encode (.ld_atA16_SP addr) = [0x08#8, lo8 addr, hi8 addr] ∧
    CompletesStoring (.ld_atA16_SP addr) s (finish s (keptF s) (s.pc + 3) (fixedTicks s (.ld_atA16_SP addr) 20))
      [(addr, byte s.sp.toNat), (addr + 1, byte (s.sp.toNat / 256))]

/-- LD SP,HL, LD HL,SP+r8 and ADD SP,r8: the signed sum modulo 2^16, and H and C of the unsigned low-byte add. Formalises: R152, R153, R223. -/
def Obligations.StackPointerMovesAndOffsets : Prop :=
  ∀ (s : State) (e : Byte),
    (encode .ld_SP_HL = [0xF9#8] ∧ encode (.ld_HL_SPr8 e) = [0xF8#8, e] ∧ encode (.add_SP_r8 e) = [0xE8#8, e]) ∧
    exec .ld_SP_HL s = .next (finish { s with sp := s.pair .HL } (keptF s) (s.pc + 1) (fixedTicks s .ld_SP_HL 8)) ∧
    exec (.ld_HL_SPr8 e) s = .next (finish (s.setPair .HL (plusSigned s.sp e)) (spOffsetF s.sp e) (s.pc + 2)
      (fixedTicks s (.ld_HL_SPr8 e) 12)) ∧
    exec (.add_SP_r8 e) s = .next (finish { s with sp := plusSigned s.sp e } (spOffsetF s.sp e) (s.pc + 2)
      (fixedTicks s (.add_SP_r8 e) 16))

/-- PUSH BC, DE, HL and AF store the pair below SP, the low byte at the lower address. Formalises: R154. -/
def Obligations.PushStoresHighThenLow : Prop :=
  ∀ (p : StackPair) (s : State), s.mem.wf = true →
    encode (.push p) = [byte (0xC5 + 16 * p.code)] ∧
    CompletesStoring (.push p) s (finish { s with sp := s.sp - 2 } (keptF s) (s.pc + 1) (fixedTicks s (.push p) 16))
      (pushedCells s (match p with
        | .BC => cat16 s.b s.c
        | .DE => cat16 s.d s.e
        | .HL => cat16 s.h s.l
        | .AF => cat16 s.a (s.f &&& 0xF0#8)))

/-- POP BC, DE, HL and AF load the pair from SP and SP + 1; POP AF takes the four flags and clears bits 3 to 0 of F. Formalises: R155, R156. -/
def Obligations.PopReadsLowThenHigh : Prop :=
  ∀ (s : State),
    let w := poppedWord s
    let s' := { s with sp := s.sp + 2 }
    (∀ p, encode (.pop p) = [byte (0xC1 + 16 * p.code)]) ∧
    exec .pop_BC s = .next (finish { s' with b := hi8 w, c := lo8 w } (keptF s) (s.pc + 1) (fixedTicks s .pop_BC 12)) ∧
    exec .pop_DE s = .next (finish { s' with d := hi8 w, e := lo8 w } (keptF s) (s.pc + 1) (fixedTicks s .pop_DE 12)) ∧
    exec .pop_HL s = .next (finish { s' with h := hi8 w, l := lo8 w } (keptF s) (s.pc + 1) (fixedTicks s .pop_HL 12)) ∧
    exec .pop_AF s = .next (finish { s' with a := hi8 w } (lo8 w &&& 0xF0#8) (s.pc + 1) (fixedTicks s .pop_AF 12))

/-- PUSH rr followed by POP rr restores the pair and SP, across the wrap too. Formalises: 40_execution_engine.md section 4 (Push16 followed by Pop16), 95_test_vectors.md S-P3. -/
def Obligations.PushThenPopRestoresThePair : Prop :=
  ∀ (p : StackPair) (s : State), s.mem.wf = true → s.isVolatile (s.sp - 1) = false → s.isVolatile (s.sp - 2) = false →
    ∃ t u, exec (.push p) s = .next t ∧ exec (.pop p) t = .next u ∧
      u.sp = s.sp ∧ (∀ q, u.stackPair q = s.stackPair q)

/-- ADD A,s for every register, (HL) and d8: the sum modulo 256, Z, N = 0, H and C. Formalises: R175, R176, R177. -/
def Obligations.AddSetsResultAndFlags : Prop :=
  ∀ (src : AluSource) (s : State),
    let a := s.a.toNat
    let b := (aluValue src s).toNat
    encode (.alu .add src) = aluBytes .add src ∧
    exec (.alu .add src) s = .next (aluFinish .add src s (byte (a + b))
      (flagByte (decide ((a + b) % 256 = 0)) false (decide (a % 16 + b % 16 > 15)) (decide (a + b > 255))))

/-- ADC A,s for every form, in both modes of ADC_SBC_MODE. Formalises: R178, R179, R180. -/
def Obligations.AddWithCarrySetsResultAndFlags : Prop :=
  ∀ (src : AluSource) (s : State),
    let a := s.a.toNat
    let b := (aluValue src s).toNat
    let c := (cOf s).toNat
    encode (.alu .adc src) = aluBytes .adc src ∧
    exec (.alu .adc src) s = .next (aluFinish .adc src s (byte (a + b + c))
      (flagByte (decide ((a + b + c) % 256 = 0)) false
        (match s.launch.adcSbcMode with
          | .carryIn => decide (a % 16 + b % 16 + c > 15)
          | .fold => decide (a % 16 + (b + c) % 16 > 15))
        (decide (a + b + c > 255))))

/-- SUB s for every form: the difference modulo 256, Z, N = 1, H and C as borrows. Formalises: R181, R182, R183. -/
def Obligations.SubtractSetsResultAndFlags : Prop :=
  ∀ (src : AluSource) (s : State),
    let a := s.a.toNat
    let b := (aluValue src s).toNat
    encode (.alu .sub src) = aluBytes .sub src ∧
    exec (.alu .sub src) s = .next (aluFinish .sub src s (byte (a + 256 - b))
      (flagByte (decide ((a + 256 - b) % 256 = 0)) true (below (a % 16) (b % 16)) (below a b)))

/-- SBC A,s for every form, in both modes of ADC_SBC_MODE. Formalises: R184, R185, R186. -/
def Obligations.SubtractWithCarrySetsResultAndFlags : Prop :=
  ∀ (src : AluSource) (s : State),
    let a := s.a.toNat
    let b := (aluValue src s).toNat
    let c := (cOf s).toNat
    encode (.alu .sbc src) = aluBytes .sbc src ∧
    exec (.alu .sbc src) s = .next (aluFinish .sbc src s (byte (a + 512 - b - c))
      (flagByte (decide ((a + 512 - b - c) % 256 = 0)) true
        (match s.launch.adcSbcMode with
          | .carryIn => below (a % 16) (b % 16 + c)
          | .fold => below (a % 16) ((b + c) % 16))
        (below a (b + c))))

/-- The two modes of ADC and SBC agree but for H, and differ there only for a low nibble 0xF with C = 1. Formalises: 43_alu_8bit.md section 1 (carry-in of ADC and SBC). -/
def Obligations.AdcSbcModesDifferOnlyInHalfCarry : Prop :=
  ∀ (a b : Byte) (c : Bool), ∀ q ∈ [(adc8 .carryIn a b c, adc8 .fold a b c), (sbc8 .carryIn a b c, sbc8 .fold a b c)],
    q.1.1 = q.2.1 ∧ q.1.2.z = q.2.2.z ∧ q.1.2.n = q.2.2.n ∧ q.1.2.c = q.2.2.c ∧
    (¬(b.toNat % 16 = 15 ∧ c = true) → q.1.2.h = q.2.2.h) ∧
    (b.toNat % 16 = 15 ∧ c = true → q.1.2.h = true ∧ q.2.2.h = false)

/-- AND, XOR and OR for every form: bitwise result, Z computed, N = C = 0, H = 1 for AND and 0 otherwise. Formalises: R173, R187, R188, R189, R190, R191, R192, R193, R194, R195. -/
def Obligations.LogicOperationsSetResultAndFlags : Prop :=
  ∀ (src : AluSource) (s : State),
    let b := aluValue src s
    (encode (.alu .and src) = aluBytes .and src ∧ encode (.alu .xor src) = aluBytes .xor src ∧
      encode (.alu .or src) = aluBytes .or src) ∧
    exec (.alu .and src) s = .next (aluFinish .and src s (s.a &&& b) (flagByte (decide (s.a &&& b = 0#8)) false true false)) ∧
    exec (.alu .xor src) s = .next (aluFinish .xor src s (s.a ^^^ b) (flagByte (decide (s.a ^^^ b = 0#8)) false false false)) ∧
    exec (.alu .or src) s = .next (aluFinish .or src s (s.a ||| b) (flagByte (decide (s.a ||| b = 0#8)) false false false))

/-- CP s for every form: SUB's flags, A unmodified. Formalises: R196, R197, R198. -/
def Obligations.CompareSetsFlagsAndKeepsA : Prop :=
  ∀ (src : AluSource) (s : State),
    let a := s.a.toNat
    let b := (aluValue src s).toNat
    encode (.alu .cp src) = aluBytes .cp src ∧
    exec (.alu .cp src) s = .next (aluFinish .cp src s s.a
      (flagByte (decide (a = b)) true (below (a % 16) (b % 16)) (below a b)))

/-- INC r and DEC r: the register modulo 256, Z and H computed, N forced, C unaffected. Formalises: R199, R201. -/
def Obligations.IncrementAndDecrementRegister : Prop :=
  ∀ (r : Reg8) (s : State),
    let v := (s.reg8 r).toNat
    (encode (.inc8 (.reg r)) = [byte (0x04 + 8 * r.code)] ∧ encode (.dec8 (.reg r)) = [byte (0x05 + 8 * r.code)]) ∧
    exec (.inc8 (.reg r)) s = .next (finish (s.setReg8 r (byte (v + 1)))
      (flagByte (decide (v = 255)) false (decide (v % 16 = 15)) (cOf s)) (s.pc + 1) (fixedTicks s (.inc8 (.reg r)) 4)) ∧
    exec (.dec8 (.reg r)) s = .next (finish (s.setReg8 r (byte (v + 255)))
      (flagByte (decide (v = 1)) true (decide (v % 16 = 0)) (cOf s)) (s.pc + 1) (fixedTicks s (.dec8 (.reg r)) 4))

/-- INC (HL) and DEC (HL) change the byte at HL and no other, with the flags of INC and DEC. Formalises: R200, R202. -/
def Obligations.IncrementAndDecrementAtHL : Prop :=
  ∀ (s : State), s.mem.wf = true →
    let v := (s.memRead .data1 (s.pair .HL)).toNat
    (encode (.inc8 .atHL) = [0x34#8] ∧ encode (.dec8 .atHL) = [0x35#8]) ∧
    CompletesStoring (.inc8 .atHL) s
      (finish s (flagByte (decide (v = 255)) false (decide (v % 16 = 15)) (cOf s)) (s.pc + 1)
        (fixedTicks s (.inc8 .atHL) 12)) [(s.pair .HL, byte (v + 1))] ∧
    CompletesStoring (.dec8 .atHL) s
      (finish s (flagByte (decide (v = 1)) true (decide (v % 16 = 0)) (cOf s)) (s.pc + 1)
        (fixedTicks s (.dec8 .atHL) 12)) [(s.pair .HL, byte (v + 255))]

/-- INC r then DEC r restores r and leaves Carry as it was. Formalises: 95_test_vectors.md S-P2, 43_alu_8bit.md section 4. -/
def Obligations.IncrementThenDecrementRestores : Prop :=
  ∀ (r : Reg8) (s : State), ∃ t u,
    exec (.inc8 (.reg r)) s = .next t ∧ exec (.dec8 (.reg r)) t = .next u ∧
      (∀ q, u.reg8 q = s.reg8 q) ∧ cOf u = cOf s

/-- DAA: the canonical correction after an addition and after a subtraction. Formalises: R203. -/
def Obligations.DecimalAdjustCorrectsTheAccumulator : Prop :=
  ∀ (s : State), encode .daa = [0x27#8] ∧
    exec .daa s = .next (finish { s with a := daaResult s }
      (flagByte (decide (daaResult s = 0#8)) (nOf s) false (daaCarry s)) (s.pc + 1) (fixedTicks s .daa 4))

/-- ADD then DAA adds, and SUB then DAA subtracts, two-digit decimal numbers. Formalises: 43_alu_8bit.md section 5 (DAA), 95_test_vectors.md V35 to V38. -/
def Obligations.DecimalArithmeticIsCorrect : Prop :=
  ∀ (s : State) (x y : Nat), x < 100 → y < 100 → s.a = bcd x →
    (∃ t u, exec (.add_A_d8 (bcd y)) s = .next t ∧ exec .daa t = .next u ∧
      u.a = bcd ((x + y) % 100) ∧ cOf u = decide (x + y > 99)) ∧
    (∃ t u, exec (.sub_d8 (bcd y)) s = .next t ∧ exec .daa t = .next u ∧
      u.a = bcd ((x + 100 - y) % 100) ∧ cOf u = decide (x < y))

/-- CPL complements A and sets N and H; SCF sets C; CCF complements C; both clear N and H. Formalises: R204, R205, R206. -/
def Obligations.ComplementAndCarryInstructions : Prop :=
  ∀ (s : State),
    (encode .cpl = [0x2F#8] ∧ encode .scf = [0x37#8] ∧ encode .ccf = [0x3F#8]) ∧
    exec .cpl s = .next (finish { s with a := byte (255 - s.a.toNat) } (flagByte (zOf s) true true (cOf s)) (s.pc + 1)
      (fixedTicks s .cpl 4)) ∧
    exec .scf s = .next (finish s (flagByte (zOf s) false false true) (s.pc + 1) (fixedTicks s .scf 4)) ∧
    exec .ccf s = .next (finish s (flagByte (zOf s) false false (!cOf s)) (s.pc + 1) (fixedTicks s .ccf 4))

/-- ADD HL,rr, INC rr and DEC rr: modulo 2^16; ADD sets H out of bit 11 and C out of bit 15 and keeps Z, INC and DEC keep all flags. Formalises: R220, R221, R222. -/
def Obligations.SixteenBitAddAndStep : Prop :=
  ∀ (p : Pair) (s : State),
    let a := (s.pair .HL).toNat
    let b := (s.pair p).toNat
    (encode (.addHL p) = [byte (0x09 + 16 * p.code)] ∧ encode (.incPair p) = [byte (0x03 + 16 * p.code)] ∧
      encode (.decPair p) = [byte (0x0B + 16 * p.code)]) ∧
    exec (.addHL p) s = .next (finish (s.setPair .HL (BitVec.ofNat 16 (a + b)))
      (flagByte (zOf s) false (decide (a % 4096 + b % 4096 > 4095)) (decide (a + b > 65535)))
      (s.pc + 1) (fixedTicks s (.addHL p) 8)) ∧
    exec (.incPair p) s = .next (finish (s.setPair p (BitVec.ofNat 16 (b + 1))) (keptF s) (s.pc + 1)
      (fixedTicks s (.incPair p) 8)) ∧
    exec (.decPair p) s = .next (finish (s.setPair p (BitVec.ofNat 16 (b + 65535))) (keptF s) (s.pc + 1)
      (fixedTicks s (.decPair p) 8))

/-- RLCA, RRCA, RLA and RRA rotate A, C takes the bit that leaves, and Z, N, H are forced 0. Formalises: R232, R233, R234, R235. -/
def Obligations.AccumulatorRotatesForceZeroFlag : Prop :=
  ∀ (s : State),
    (encode .rlca = [0x07#8] ∧ encode .rrca = [0x0F#8] ∧ encode .rla = [0x17#8] ∧ encode .rra = [0x1F#8]) ∧
    ∀ q ∈ [(Instr.rlca, RotOp.rlc), (.rrca, .rrc), (.rla, .rl), (.rra, .rr)],
      let r := rotArith q.2 s.a.toNat (cOf s)
      exec q.1 s = .next (finish { s with a := byte r.1 } (flagByte false false false r.2) (s.pc + 1)
        (fixedTicks s q.1 4))

/-- RLC, RRC, RL, RR, SLA, SRA, SWAP and SRL on a register: result, Z and the bit into C. Formalises: R236, R238, R240, R242, R244, R246, R248, R250. -/
def Obligations.RotateShiftSwapRegister : Prop :=
  ∀ (op : RotOp) (r : Reg8) (s : State),
    let q := rotArith op (s.reg8 r).toNat (cOf s)
    encode (.rot op (.reg r)) = [0xCB#8, byte (8 * op.code + r.code)] ∧
    exec (.rot op (.reg r)) s = .next (finish (s.setReg8 r (byte q.1)) (flagByte (decide (q.1 = 0)) false false q.2)
      (s.pc + 2) (fixedTicks s (.rot op (.reg r)) 8))

/-- The eight rotates and shifts on (HL) change the byte at HL and no other. Formalises: R237, R239, R241, R243, R245, R247, R249, R251. -/
def Obligations.RotateShiftSwapAtHL : Prop :=
  ∀ (op : RotOp) (s : State), s.mem.wf = true →
    let q := rotArith op (s.memRead .data1 (s.pair .HL)).toNat (cOf s)
    encode (.rot op .atHL) = [0xCB#8, byte (8 * op.code + 6)] ∧
    CompletesStoring (.rot op .atHL) s (finish s (flagByte (decide (q.1 = 0)) false false q.2) (s.pc + 2)
      (fixedTicks s (.rot op .atHL) 16)) [(s.pair .HL, byte q.1)]

/-- BIT b on a register and on (HL): Z is the complement of the bit, N = 0, H = 1, C kept, nothing written. Formalises: R252, R253. -/
def Obligations.BitTestSetsFlagsAndWritesNothing : Prop :=
  ∀ (b : Index8) (t : Target8) (s : State),
    let v := (match t with
      | .reg r => s.reg8 r
      | .atHL => s.memRead .data1 (s.pair .HL)).toNat
    encode (.bit b t) = [0xCB#8, byte (0x40 + 8 * b.toNat + t.code)] ∧
    exec (.bit b t) s = .next (finish s (flagByte (decide (v / 2 ^ b.toNat % 2 = 0)) false true (cOf s)) (s.pc + 2)
      (fixedTicks s (.bit b t) (if t = .atHL then 12 else 8)))

/-- RES b,r and SET b,r change bit b of the register and no other bit, and no flag. Formalises: R254, R256. -/
def Obligations.ResetAndSetBitOfRegister : Prop :=
  ∀ (b : Index8) (r : Reg8) (s : State),
    let v := (s.reg8 r).toNat
    let old := v / 2 ^ b.toNat % 2
    (encode (.res b (.reg r)) = [0xCB#8, byte (0x80 + 8 * b.toNat + r.code)] ∧
      encode (.set b (.reg r)) = [0xCB#8, byte (0xC0 + 8 * b.toNat + r.code)]) ∧
    exec (.res b (.reg r)) s = .next (finish (s.setReg8 r (byte (v - old * 2 ^ b.toNat))) (keptF s) (s.pc + 2)
      (fixedTicks s (.res b (.reg r)) 8)) ∧
    exec (.set b (.reg r)) s = .next (finish (s.setReg8 r (byte (v + (1 - old) * 2 ^ b.toNat))) (keptF s) (s.pc + 2)
      (fixedTicks s (.set b (.reg r)) 8))

/-- RES b,(HL) and SET b,(HL) change bit b of the byte at HL, no other byte and no flag. Formalises: R255, R257. -/
def Obligations.ResetAndSetBitAtHL : Prop :=
  ∀ (b : Index8) (s : State), s.mem.wf = true →
    let v := (s.memRead .data1 (s.pair .HL)).toNat
    let old := v / 2 ^ b.toNat % 2
    (encode (.res b .atHL) = [0xCB#8, byte (0x86 + 8 * b.toNat)] ∧
      encode (.set b .atHL) = [0xCB#8, byte (0xC6 + 8 * b.toNat)]) ∧
    CompletesStoring (.res b .atHL) s (finish s (keptF s) (s.pc + 2) (fixedTicks s (.res b .atHL) 16))
      [(s.pair .HL, byte (v - old * 2 ^ b.toNat))] ∧
    CompletesStoring (.set b .atHL) s (finish s (keptF s) (s.pc + 2) (fixedTicks s (.set b .atHL) 16))
      [(s.pair .HL, byte (v + (1 - old) * 2 ^ b.toNat))]

/-- JP a16, JP (HL) and JR r8 set PC to a16, to HL, and to PC + 2 plus the signed displacement. Formalises: R271, R273, R274. -/
def Obligations.UnconditionalJumpsSetPc : Prop :=
  ∀ (s : State) (addr : Word) (e : Byte),
    (encode (.jp_a16 addr) = [0xC3#8, lo8 addr, hi8 addr] ∧ encode .jp_HL = [0xE9#8] ∧ encode (.jr_r8 e) = [0x18#8, e]) ∧
    exec (.jp_a16 addr) s = .next (finish s (keptF s) addr (branchTicks s (.jp_a16 addr) 16 16 true)) ∧
    exec .jp_HL s = .next (finish s (keptF s) (s.pair .HL) (branchTicks s .jp_HL 4 4 true)) ∧
    exec (.jr_r8 e) s = .next (finish s (keptF s) (plusSigned (s.pc + 2) e) (branchTicks s (.jr_r8 e) 12 12 true))

/-- JP cc,a16 and JR cc,r8: the target and the taken cost when cc holds, PC + length and the not-taken cost when not. Formalises: R272, R275. -/
def Obligations.ConditionalJumpsFollowTheirCondition : Prop :=
  ∀ (cc : Cond) (s : State) (addr : Word) (e : Byte),
    (encode (.jpCond cc addr) = [byte (0xC2 + 8 * cc.code), lo8 addr, hi8 addr] ∧
      encode (.jrCond cc e) = [byte (0x20 + 8 * cc.code), e]) ∧
    exec (.jpCond cc addr) s = .next (finish s (keptF s) (if condition cc s then addr else s.pc + 3)
      (branchTicks s (.jpCond cc addr) 16 12 (condition cc s))) ∧
    exec (.jrCond cc e) s = .next (finish s (keptF s) (if condition cc s then plusSigned (s.pc + 2) e else s.pc + 2)
      (branchTicks s (.jrCond cc e) 12 8 (condition cc s)))

/-- CALL a16 pushes PC + 3 and jumps; CALL cc,a16 does so when cc holds and otherwise only advances PC. Formalises: R276, R277. -/
def Obligations.CallsPushReturnAddressAndJump : Prop :=
  ∀ (cc : Cond) (s : State) (addr : Word), s.mem.wf = true →
    (encode (.call_a16 addr) = [0xCD#8, lo8 addr, hi8 addr] ∧
      encode (.callCond cc addr) = [byte (0xC4 + 8 * cc.code), lo8 addr, hi8 addr]) ∧
    CompletesStoring (.call_a16 addr) s (finish { s with sp := s.sp - 2 } (keptF s) addr (branchTicks s (.call_a16 addr) 24 24 true))
      (pushedCells s (s.pc + 3)) ∧
    (condition cc s = true →
      CompletesStoring (.callCond cc addr) s (finish { s with sp := s.sp - 2 } (keptF s) addr
        (branchTicks s (.callCond cc addr) 24 12 true)) (pushedCells s (s.pc + 3))) ∧
    (condition cc s = false →
      exec (.callCond cc addr) s = .next (finish s (keptF s) (s.pc + 3) (branchTicks s (.callCond cc addr) 24 12 false)))

/-- RET and RETI pop PC, RETI also sets IME; RET cc pops PC when cc holds and otherwise only advances PC. Formalises: R278, R279, R280. -/
def Obligations.ReturnsPopPc : Prop :=
  ∀ (cc : Cond) (s : State),
    (encode .ret = [0xC9#8] ∧ encode .reti = [0xD9#8] ∧ encode (.retCond cc) = [byte (0xC0 + 8 * cc.code)]) ∧
    exec .ret s = .next (finish { s with sp := s.sp + 2 } (keptF s) (poppedWord s) (branchTicks s .ret 16 16 true)) ∧
    exec .reti s = .next (finish { s with sp := s.sp + 2, ime := true } (keptF s) (poppedWord s) (branchTicks s .reti 16 16 true)) ∧
    exec (.retCond cc) s = .next (if condition cc s
      then finish { s with sp := s.sp + 2 } (keptF s) (poppedWord s) (branchTicks s (.retCond cc) 20 8 true)
      else finish s (keptF s) (s.pc + 1) (branchTicks s (.retCond cc) 20 8 false))

/-- RST t pushes PC + 1 and jumps to t * 8. Formalises: R281. -/
def Obligations.RestartPushesAndJumpsToItsVector : Prop :=
  ∀ (t : Index8) (s : State), s.mem.wf = true →
    encode (.rst t) = [byte (0xC7 + 8 * t.toNat)] ∧
    CompletesStoring (.rst t) s (finish { s with sp := s.sp - 2 } (keptF s) (BitVec.ofNat 16 (8 * t.toNat))
      (branchTicks s (.rst t) 16 16 true)) (pushedCells s (s.pc + 1))

/-- NOP, DI, EI, HALT and STOP: IME or HALTED as each says, PC by the length, 4 ticks, nothing else. Formalises: R290, R291, R292, R293, R294. -/
def Obligations.NopInterruptEnableAndHaltInstructions : Prop :=
  ∀ (s : State) (n : Byte),
    (encode .nop = [0x00#8] ∧ encode .di = [0xF3#8] ∧ encode .ei = [0xFB#8] ∧ encode .halt = [0x76#8] ∧
      encode (.stop n) = [0x10#8, n]) ∧
    exec .nop s = .next (finish s (keptF s) (s.pc + 1) (fixedTicks s .nop 4)) ∧
    exec .di s = .next (finish { s with ime := false } (keptF s) (s.pc + 1) (fixedTicks s .di 4)) ∧
    exec .ei s = .next (finish { s with ime := true } (keptF s) (s.pc + 1) (fixedTicks s .ei 4)) ∧
    exec .halt s = .next (finish { s with halted := true } (keptF s) (s.pc + 1) (fixedTicks s .halt 4)) ∧
    exec (.stop n) s = .next (finish { s with halted := true } (keptF s) (s.pc + 2) (fixedTicks s (.stop n) 4)) ∧
    (∀ t v, exec .di s = .next t → t.vectorEnabled v = false) ∧
    (∀ t v, exec .ei s = .next t → s.fault = none → v ∈ s.launch.intVectors → t.vectorEnabled v = true)

/-- PREFIX CB reads the byte at PC + 1 and runs that entry of the CB table. Formalises: R295. -/
def Obligations.PrefixRunsTheSelectedCbEntry : Prop :=
  ∀ (s : State), ∃ t, exec .prefix_CB s = .next t ∧ exec (decodeCB (s.memRead .imm1 (s.pc + 1))) s = .next t ∧
    t.fault = s.fault

/-- Each of the eleven unassigned opcodes sets FAULT to InvalidOpcode with its byte and PC, and changes nothing else. Formalises: R296, R301. -/
def Obligations.InvalidOpcodeFaultsPrecisely : Prop :=
  ∀ (s : State), ∀ q ∈ Instr.invalidOpcodes,
    encode q.1 = [q.2] ∧
    exec q.1 s = .next { s with fault := some (.invalidOpcode q.2 s.pc) } ∧
    step { s with fault := some (.invalidOpcode q.2 s.pc) } = .fault (.invalidOpcode q.2 s.pc)

/-- A step of a running core with no enabled Vector is exec of the instruction that the bytes at PC decode to. Formalises: 40_execution_engine.md section 1 (the step). -/
def Obligations.StepRunsTheDecodedInstruction : Prop :=
  ∀ (s : State) (i : Instr) (rest : List Byte), s.fault = none → s.halted = false →
    decode [s.memRead .opcode s.pc, s.memRead .imm1 (s.pc + 1), s.memRead .imm2 (s.pc + 2)] = .ok i rest →
    (∀ v, s.schedule.head = .vector v → s.ime = false ∨ v ∉ s.launch.intVectors) →
    step s = exec i { s with schedule := s.schedule.tail } ∧ (s.schedule = .quiet → step s = exec i s)

/-- Any three bytes decode to a well-formed instruction, of a length told by the first byte. Formalises: 30_encoding.md section 3 (length and prefix), 30_encoding.md section 4. -/
def Obligations.FetchedBytesAlwaysDecode : Prop :=
  ∀ (b0 b1 b2 : Byte), ∃ i,
    decode [b0, b1, b2] = .ok i ([b0, b1, b2].drop (instrLength b0)) ∧ i.wellFormed = true ∧
    i = decode3 b0 b1 b2 ∧ 1 ≤ instrLength b0 ∧ instrLength b0 ≤ 3

/-- A halted core that nothing wakes takes idle steps for ever: only ticks grows. Formalises: R108. -/
def Obligations.HaltedCoreIdlesForever : Prop :=
  ∀ (n : Nat) (s : State), s.fault = none → s.halted = true → s.schedule = .quiet →
    Host.Core.run Sys2Proof.core n s = .next { s with ticks := s.ticks + n * s.launch.haltIdleTicks }

/-- Vector(v): IME and HALTED cleared, PC pushed, PC = v, dispatch ticks charged, nothing else changed but the schedule (log entry 4). Formalises: 60_exceptions.md section 2 (the Vector action). -/
def Obligations.VectorDispatchesWhenEnabled : Prop :=
  ∀ (s : State) (v : Word), s.mem.wf = true → s.fault = none → s.schedule.head = .vector v →
    (s.ime = true → v ∈ s.launch.intVectors →
      ∃ t, step s = .next t ∧
        { t with mem := s.mem } =
          { s with ime := false, halted := false, sp := s.sp - 2, pc := v, ticks := s.ticks + s.launch.intDispatchTicks,
                   schedule := s.schedule.tail } ∧
        Stores s t (pushedCells s s.pc)) ∧
    (s.ime = false ∨ v ∉ s.launch.intVectors → s.vectorEnabled v = false) ∧
    Launch.default.intVectors = [0x40#16, 0x48#16, 0x50#16, 0x58#16, 0x60#16] ∧ Launch.default.intDispatchTicks = 20

/-- Wake clears HALTED, whatever IME is, and changes nothing else but the schedule (log entry 4); the next step fetches at PC. Formalises: 60_exceptions.md section 2 (the Wake action). -/
def Obligations.WakeLeavesHaltedOnly : Prop :=
  ∀ (s : State), s.fault = none → s.halted = true → s.schedule.head = .wake →
    let t := { s with halted := false, schedule := s.schedule.tail }
    step s = .next t ∧ (t.schedule = .quiet → step t = exec t.fetch t)

/-- RETI at the handler returns to the interrupted instruction with SP restored and IME set. Formalises: 60_exceptions.md section 2 (trap return and nesting). -/
def Obligations.InterruptDispatchThenRetiResumes : Prop :=
  ∀ (s : State) (v : Word), s.mem.wf = true → s.isVolatile (s.sp - 1) = false → s.isVolatile (s.sp - 2) = false →
    ∃ t, exec .reti (s.dispatchInterrupt v) = .next t ∧
      t.pc = s.pc ∧ t.sp = s.sp ∧ t.ime = true ∧ t.halted = false ∧ (∀ r, t.reg8 r = s.reg8 r) ∧ t.f = keptF s

/-- A byte stored at the next instruction's address is the opcode that the next step fetches. Formalises: 20_memory.md section 6 (instruction-fetch coherence). -/
def Obligations.StoredByteIsFetchedNext : Prop :=
  ∀ (s : State), s.mem.wf = true → s.launch.memoryOracle = .flat → s.pair .HL = s.pc + 1 →
    ∃ t, exec .ld_atHL_A s = .next t ∧ t.pc = s.pc + 1 ∧ t.memRead .opcode t.pc = s.a ∧
      t.fetch = decode3 s.a (t.memRead .imm1 (s.pc + 2)) (t.memRead .imm2 (s.pc + 3))

/-- Every instruction answers a next state from every state, and FAULT changes only by an unassigned opcode. Formalises: 60_exceptions.md section 1 (no other synchronous exception). -/
def Obligations.EveryInstructionCompletes : Prop :=
  ∀ (i : Instr) (s : State), ∃ t, exec i s = .next t ∧
    (t.fault = s.fault ∨ ∃ q ∈ Instr.invalidOpcodes, q.1 = i ∧ t.fault = some (.invalidOpcode q.2 s.pc))

/-- Every meaning has the length, ticks and flag effects that the one table of R95 and R84 gives its opcode. Formalises: 30_encoding.md section 6 (per-opcode table), 40_execution_engine.md sections 1 and 3. -/
def Obligations.EveryInstructionFollowsItsDescriptor : Prop :=
  ∀ (i : Instr) (d : Descriptor) (s t : State), descriptor i = some d → exec i s = .next t →
    ∃ (p : Flags) (taken : Bool),
      t.f = commit d.gate (Flags.ofByte s.f) p ∧
      t.ticks = s.ticks + cycleCost s.launch d.row d.cost taken ∧
      (taken = false → t.pc = s.pc + BitVec.ofNat 16 d.length) ∧
      (taken = true → (∃ cc a, i = .jpCond cc a) ∨ (∃ cc e, i = .jrCond cc e) ∨ (∃ cc a, i = .callCond cc a) ∨
        (∃ cc, i = .retCond cc) ∨ (∃ a, i = .jp_a16 a) ∨ (∃ e, i = .jr_r8 e) ∨ (∃ a, i = .call_a16 a) ∨
        (∃ t, i = .rst t) ∨ i = .jp_HL ∨ i = .ret ∨ i = .reti)

/-- Only DI, EI and RETI change IME, only HALT and STOP set HALTED, none clears it; none writes the launch or the schedule (log entries 5, 4). Formalises: 10_state.md section 4 (interrupt and halt state), 00_scope.md section 4 (implementation parameters). -/
def Obligations.OnlyInterruptControlChangesImeAndHalted : Prop :=
  ∀ (i : Instr) (s t : State), exec i s = .next t →
    (t.ime ≠ s.ime → i = .di ∨ i = .ei ∨ i = .reti) ∧
    (t.halted ≠ s.halted → (i = .halt ∨ ∃ n, i = .stop n) ∧ t.halted = true) ∧
    t.launch = s.launch ∧ t.schedule = s.schedule

/-- Every transition keeps F's low bits 0, memory canonical and the fault record precise. Formalises: 10_state.md section 3, 60_exceptions.md section 1 (precise faults), 20_memory.md section 1. -/
def Obligations.EveryStepKeepsTheInvariant : Prop :=
  ∀ (s t : State), s.inv = true → step s = .next t → t.inv = true

/-- The clock and the timing parameters influence no result but ticks. Formalises: R352. -/
def Obligations.TimingInfluencesOnlyTicks : Prop :=
  ∀ (s s' : State), s.withoutTiming = s'.withoutTiming →
    (∀ t, step s = .next t → ∃ t', step s' = .next t' ∧ t.withoutTiming = t'.withoutTiming) ∧
    (∀ r, step s = .fault r → step s' = .fault r)

/-- Decoding an encoded well-formed instruction gives it back, with every operand, whatever follows. Formalises: 30_encoding.md sections 1 to 6. -/
def Obligations.DecodingUndoesEncoding : Prop :=
  ∀ (i : Instr) (rest : List Byte), i.wellFormed = true → decode (encode i ++ rest) = .ok i rest

/-- The bytes that decode to an instruction are its encoding: every byte string has one meaning. Formalises: 30_encoding.md sections 1 to 6. -/
def Obligations.EncodingUndoesDecoding : Prop :=
  ∀ (bs rest : List Byte) (i : Instr), decode bs = .ok i rest → i.wellFormed = true ∧ encode i ++ rest = bs

/-- A word of each family, written out from the spec's encodings, decodes to its instruction. Formalises: 30_encoding.md section 6 (opcode maps). -/
def Obligations.WrittenOutWordsDecodeRight : Prop :=
  decode [0b01111000#8] = .ok .ld_A_B [] ∧ decode [0b00111110#8, 0x42#8] = .ok (.ld_A_d8 0x42#8) [] ∧
    decode [0b00100001#8, 0x34#8, 0x12#8] = .ok (.ld_HL_d16 0x1234#16) [] ∧ decode [0b11110101#8] = .ok .push_AF [] ∧
    decode [0b10011110#8] = .ok .sbc_A_atHL [] ∧ decode [0b00111001#8] = .ok .add_HL_SP [] ∧
    decode [0b11001011#8, 0b00110111#8] = .ok .swap_A [] ∧ decode [0b11001011#8, 0b01111110#8] = .ok .bit_7_atHL [] ∧
    decode [0b11011010#8, 0x00#8, 0x20#8] = .ok (.jp_C_a16 0x2000#16) [] ∧ decode [0b01110110#8] = .ok .halt [] ∧
    decode [0b11010011#8] = .ok .invalid_D3 []
end

