-- ==== Sys2Proof/Laws/Memory.lean ====
section
/-! SUPPORT. The laws of memory: a read after a write, every other address left alone, and the canonical form kept. -/

namespace Sys2Proof.Machine

/-- What it says of a memory that it is canonical from `lo` on. -/
theorem Memory.wfFrom_cons (lo k : Nat) (v : Byte) (t : Memory) :
    Memory.wfFrom lo ((k, v) :: t) = true ↔
      lo ≤ k ∧ k < 65536 ∧ v ≠ Config.unlistedByte ∧ Memory.wfFrom (k + 1) t = true := by
  simp [Memory.wfFrom, and_assoc]

/-- A canonical memory stays canonical from any lower address on. -/
theorem Memory.wfFrom_weaken {lo lo' : Nat} {m : Memory} (h : Memory.wfFrom lo m = true) (hle : lo' ≤ lo) :
    Memory.wfFrom lo' m = true := by
  cases m with
  | nil => rfl
  | cons e t =>
    obtain ⟨k, v⟩ := e
    rw [Memory.wfFrom_cons] at h ⊢
    exact ⟨hle.trans h.1, h.2⟩

/-- Below the first address, a canonical memory lists nothing. -/
theorem Memory.get_below {lo a : Nat} {m : Memory} (h : Memory.wfFrom lo m = true) (ha : a < lo) :
    m.get a = Config.unlistedByte := by
  induction m generalizing lo with
  | nil => rfl
  | cons e t ih =>
    obtain ⟨k, v⟩ := e
    rw [Memory.wfFrom_cons] at h
    have hk : k ≠ a := by omega
    simp only [Memory.get, hk, if_false]
    exact ih h.2.2.2 (by omega)

/-- Writing keeps the canonical form. -/
theorem Memory.wfFrom_write {lo a : Nat} {m : Memory} (v : Byte) (h : Memory.wfFrom lo m = true) (hlo : lo ≤ a)
    (ha : a < 65536) : Memory.wfFrom lo (m.write a v) = true := by
  induction m generalizing lo with
  | nil =>
    by_cases hv : v = Config.unlistedByte
    · simp [Memory.write, hv, Memory.wfFrom]
    · simp [Memory.write, hv, Memory.wfFrom, hlo, ha]
  | cons e t ih =>
    obtain ⟨k, w⟩ := e
    rw [Memory.wfFrom_cons] at h
    obtain ⟨hk, hk', hw, ht⟩ := h
    simp only [Memory.write]
    split
    · split
      · exact (Memory.wfFrom_cons ..).2 ⟨hk, hk', hw, ht⟩
      · refine (Memory.wfFrom_cons ..).2 ⟨hlo, ha, by assumption, ?_⟩
        exact (Memory.wfFrom_cons ..).2 ⟨by omega, hk', hw, ht⟩
    · split
      · split
        · exact Memory.wfFrom_weaken ht (by omega)
        · subst_vars
          exact (Memory.wfFrom_cons ..).2 ⟨hlo, ha, by assumption, ht⟩
      · exact (Memory.wfFrom_cons ..).2 ⟨hk, hk', hw, ih ht (by omega)⟩

/-- What every read gives after a write to a canonical memory. -/
theorem Memory.get_write_from {lo : Nat} {m : Memory} (a b : Nat) (v : Byte) (h : Memory.wfFrom lo m = true) :
    (m.write a v).get b = if b = a then v else m.get b := by
  induction m generalizing lo with
  | nil =>
    simp only [Memory.write]
    split
    · simp [Memory.get, *]
    · simp [Memory.get, eq_comm]
  | cons e t ih =>
    obtain ⟨k, w⟩ := e
    rw [Memory.wfFrom_cons] at h
    obtain ⟨hk, hk', hw, ht⟩ := h
    simp only [Memory.write]
    split
    · rename_i hlt
      split
      · rename_i hv
        by_cases hb : b = a
        · have hkb : k ≠ b := by omega
          have hlow : Memory.get t b = Config.unlistedByte := Memory.get_below ht (by omega)
          simp [Memory.get, hb ▸ hkb, hb ▸ hlow, hb, hv]
        · simp [hb]
      · by_cases hb : b = a
        · simp [Memory.get, hb]
        · have hab : ¬(a = b) := fun h => hb h.symm
          simp [Memory.get, hb, hab]
    · split
      · rename_i hak
        subst hak
        split
        · rename_i hv
          by_cases hb : b = a
          · have hlow : Memory.get t a = Config.unlistedByte := Memory.get_below ht (by omega)
            simp [hb, hlow, hv]
          · have hab : ¬(a = b) := fun h => hb h.symm
            simp [Memory.get, hb, hab]
        · by_cases hb : b = a
          · simp [Memory.get, hb]
          · have hab : ¬(a = b) := fun h => hb h.symm
            simp [Memory.get, hb, hab]
      · rename_i hka
        have := ih ht
        by_cases hb : k = b
        · have hba : ¬(b = a) := by omega
          simp [Memory.get, hb, hba]
        · simp [Memory.get, hb, this]

/-- Read after write: the written address gives the byte, every other address what it gave. -/
theorem Memory.get_write {m : Memory} (h : m.wf = true) (a b : Nat) (v : Byte) :
    (m.write a v).get b = if b = a then v else m.get b :=
  Memory.get_write_from a b v h

/-- Every write inside the address space keeps the canonical form. -/
theorem Memory.wf_write {m : Memory} (h : m.wf = true) {a : Nat} (ha : a < 65536) (v : Byte) :
    (m.write a v).wf = true :=
  Memory.wfFrom_write v h (Nat.zero_le a) ha

/-- The memory of the state after reset is canonical. -/
theorem Memory.wf_reset : State.reset.mem.wf = true := rfl

end Sys2Proof.Machine
end

