-- ==== Sys2Proof/Laws/State.lean ====
section
/-! SUPPORT. One lemma for each field that an update of the state leaves alone, or sets, so that no proof unfolds an update. -/

namespace Sys2Proof.Machine

@[simp] theorem State.setReg8_f (s : State) (r : Reg8) (v : Byte) : (s.setReg8 r v).f = s.f := by cases r <;> rfl
@[simp] theorem State.setReg8_sp (s : State) (r : Reg8) (v : Byte) : (s.setReg8 r v).sp = s.sp := by cases r <;> rfl
@[simp] theorem State.setReg8_pc (s : State) (r : Reg8) (v : Byte) : (s.setReg8 r v).pc = s.pc := by cases r <;> rfl
@[simp] theorem State.setReg8_ime (s : State) (r : Reg8) (v : Byte) : (s.setReg8 r v).ime = s.ime := by cases r <;> rfl
@[simp] theorem State.setReg8_halted (s : State) (r : Reg8) (v : Byte) : (s.setReg8 r v).halted = s.halted := by cases r <;> rfl
@[simp] theorem State.setReg8_ticks (s : State) (r : Reg8) (v : Byte) : (s.setReg8 r v).ticks = s.ticks := by cases r <;> rfl
@[simp] theorem State.setReg8_fault (s : State) (r : Reg8) (v : Byte) : (s.setReg8 r v).fault = s.fault := by cases r <;> rfl
@[simp] theorem State.setReg8_mem (s : State) (r : Reg8) (v : Byte) : (s.setReg8 r v).mem = s.mem := by cases r <;> rfl
@[simp] theorem State.setReg8_launch (s : State) (r : Reg8) (v : Byte) : (s.setReg8 r v).launch = s.launch := by cases r <;> rfl
@[simp] theorem State.setReg8_schedule (s : State) (r : Reg8) (v : Byte) : (s.setReg8 r v).schedule = s.schedule := by cases r <;> rfl
@[simp] theorem State.setReg8_draws (s : State) (r : Reg8) (v : Byte) : (s.setReg8 r v).draws = s.draws := by cases r <;> rfl

@[simp] theorem State.setReg8_A (s : State) (v : Byte) : s.setReg8 .A v = { s with a := v } := rfl
@[simp] theorem State.reg8_A (s : State) : s.reg8 .A = s.a := rfl
@[simp] theorem State.setReg8_B (s : State) (v : Byte) : s.setReg8 .B v = { s with b := v } := rfl
@[simp] theorem State.reg8_B (s : State) : s.reg8 .B = s.b := rfl
@[simp] theorem State.setReg8_C (s : State) (v : Byte) : s.setReg8 .C v = { s with c := v } := rfl
@[simp] theorem State.reg8_C (s : State) : s.reg8 .C = s.c := rfl
@[simp] theorem State.setReg8_D (s : State) (v : Byte) : s.setReg8 .D v = { s with d := v } := rfl
@[simp] theorem State.reg8_D (s : State) : s.reg8 .D = s.d := rfl
@[simp] theorem State.setReg8_E (s : State) (v : Byte) : s.setReg8 .E v = { s with e := v } := rfl
@[simp] theorem State.reg8_E (s : State) : s.reg8 .E = s.e := rfl
@[simp] theorem State.setReg8_H (s : State) (v : Byte) : s.setReg8 .H v = { s with h := v } := rfl
@[simp] theorem State.reg8_H (s : State) : s.reg8 .H = s.h := rfl
@[simp] theorem State.setReg8_L (s : State) (v : Byte) : s.setReg8 .L v = { s with l := v } := rfl
@[simp] theorem State.reg8_L (s : State) : s.reg8 .L = s.l := rfl

@[simp] theorem State.setPair_a (s : State) (p : Pair) (v : Word) : (s.setPair p v).a = s.a := by cases p <;> rfl
@[simp] theorem State.setPair_f (s : State) (p : Pair) (v : Word) : (s.setPair p v).f = s.f := by cases p <;> rfl
@[simp] theorem State.setPair_pc (s : State) (p : Pair) (v : Word) : (s.setPair p v).pc = s.pc := by cases p <;> rfl
@[simp] theorem State.setPair_ime (s : State) (p : Pair) (v : Word) : (s.setPair p v).ime = s.ime := by cases p <;> rfl
@[simp] theorem State.setPair_halted (s : State) (p : Pair) (v : Word) : (s.setPair p v).halted = s.halted := by cases p <;> rfl
@[simp] theorem State.setPair_ticks (s : State) (p : Pair) (v : Word) : (s.setPair p v).ticks = s.ticks := by cases p <;> rfl
@[simp] theorem State.setPair_fault (s : State) (p : Pair) (v : Word) : (s.setPair p v).fault = s.fault := by cases p <;> rfl
@[simp] theorem State.setPair_mem (s : State) (p : Pair) (v : Word) : (s.setPair p v).mem = s.mem := by cases p <;> rfl
@[simp] theorem State.setPair_launch (s : State) (p : Pair) (v : Word) : (s.setPair p v).launch = s.launch := by cases p <;> rfl
@[simp] theorem State.setPair_schedule (s : State) (p : Pair) (v : Word) : (s.setPair p v).schedule = s.schedule := by cases p <;> rfl
@[simp] theorem State.setPair_draws (s : State) (p : Pair) (v : Word) : (s.setPair p v).draws = s.draws := by cases p <;> rfl
@[simp] theorem State.setPair_BC (s : State) (v : Word) : s.setPair .BC v = { s with b := hi8 v, c := lo8 v } := rfl
@[simp] theorem State.setPair_DE (s : State) (v : Word) : s.setPair .DE v = { s with d := hi8 v, e := lo8 v } := rfl
@[simp] theorem State.setPair_HL (s : State) (v : Word) : s.setPair .HL v = { s with h := hi8 v, l := lo8 v } := rfl
@[simp] theorem State.setPair_SP (s : State) (v : Word) : s.setPair .SP v = { s with sp := v } := rfl
@[simp] theorem State.pair_BC (s : State) : s.pair .BC = cat16 s.b s.c := rfl
@[simp] theorem State.pair_DE (s : State) : s.pair .DE = cat16 s.d s.e := rfl
@[simp] theorem State.pair_HL (s : State) : s.pair .HL = cat16 s.h s.l := rfl
@[simp] theorem State.pair_SP (s : State) : s.pair .SP = s.sp := rfl

@[simp] theorem State.memWrite_a (s : State) (a : Word) (v : Byte) : (s.memWrite a v).a = s.a := by unfold State.memWrite; split <;> rfl
@[simp] theorem State.memWrite_f (s : State) (a : Word) (v : Byte) : (s.memWrite a v).f = s.f := by unfold State.memWrite; split <;> rfl
@[simp] theorem State.memWrite_b (s : State) (a : Word) (v : Byte) : (s.memWrite a v).b = s.b := by unfold State.memWrite; split <;> rfl
@[simp] theorem State.memWrite_c (s : State) (a : Word) (v : Byte) : (s.memWrite a v).c = s.c := by unfold State.memWrite; split <;> rfl
@[simp] theorem State.memWrite_d (s : State) (a : Word) (v : Byte) : (s.memWrite a v).d = s.d := by unfold State.memWrite; split <;> rfl
@[simp] theorem State.memWrite_e (s : State) (a : Word) (v : Byte) : (s.memWrite a v).e = s.e := by unfold State.memWrite; split <;> rfl
@[simp] theorem State.memWrite_h (s : State) (a : Word) (v : Byte) : (s.memWrite a v).h = s.h := by unfold State.memWrite; split <;> rfl
@[simp] theorem State.memWrite_l (s : State) (a : Word) (v : Byte) : (s.memWrite a v).l = s.l := by unfold State.memWrite; split <;> rfl
@[simp] theorem State.memWrite_sp (s : State) (a : Word) (v : Byte) : (s.memWrite a v).sp = s.sp := by unfold State.memWrite; split <;> rfl
@[simp] theorem State.memWrite_pc (s : State) (a : Word) (v : Byte) : (s.memWrite a v).pc = s.pc := by unfold State.memWrite; split <;> rfl
@[simp] theorem State.memWrite_ime (s : State) (a : Word) (v : Byte) : (s.memWrite a v).ime = s.ime := by unfold State.memWrite; split <;> rfl
@[simp] theorem State.memWrite_halted (s : State) (a : Word) (v : Byte) : (s.memWrite a v).halted = s.halted := by unfold State.memWrite; split <;> rfl
@[simp] theorem State.memWrite_ticks (s : State) (a : Word) (v : Byte) : (s.memWrite a v).ticks = s.ticks := by unfold State.memWrite; split <;> rfl
@[simp] theorem State.memWrite_fault (s : State) (a : Word) (v : Byte) : (s.memWrite a v).fault = s.fault := by unfold State.memWrite; split <;> rfl
@[simp] theorem State.memWrite_launch (s : State) (a : Word) (v : Byte) : (s.memWrite a v).launch = s.launch := by unfold State.memWrite; split <;> rfl
@[simp] theorem State.memWrite_schedule (s : State) (a : Word) (v : Byte) : (s.memWrite a v).schedule = s.schedule := by unfold State.memWrite; split <;> rfl
@[simp] theorem State.memWrite_draws (s : State) (a : Word) (v : Byte) : (s.memWrite a v).draws = s.draws := by unfold State.memWrite; split <;> rfl

@[simp] theorem State.memWrite16_a (s : State) (a v : Word) : (s.memWrite16 a v).a = s.a := by simp [State.memWrite16]
@[simp] theorem State.memWrite16_f (s : State) (a v : Word) : (s.memWrite16 a v).f = s.f := by simp [State.memWrite16]
@[simp] theorem State.memWrite16_b (s : State) (a v : Word) : (s.memWrite16 a v).b = s.b := by simp [State.memWrite16]
@[simp] theorem State.memWrite16_c (s : State) (a v : Word) : (s.memWrite16 a v).c = s.c := by simp [State.memWrite16]
@[simp] theorem State.memWrite16_d (s : State) (a v : Word) : (s.memWrite16 a v).d = s.d := by simp [State.memWrite16]
@[simp] theorem State.memWrite16_e (s : State) (a v : Word) : (s.memWrite16 a v).e = s.e := by simp [State.memWrite16]
@[simp] theorem State.memWrite16_h (s : State) (a v : Word) : (s.memWrite16 a v).h = s.h := by simp [State.memWrite16]
@[simp] theorem State.memWrite16_l (s : State) (a v : Word) : (s.memWrite16 a v).l = s.l := by simp [State.memWrite16]
@[simp] theorem State.memWrite16_sp (s : State) (a v : Word) : (s.memWrite16 a v).sp = s.sp := by simp [State.memWrite16]
@[simp] theorem State.memWrite16_pc (s : State) (a v : Word) : (s.memWrite16 a v).pc = s.pc := by simp [State.memWrite16]
@[simp] theorem State.memWrite16_ime (s : State) (a v : Word) : (s.memWrite16 a v).ime = s.ime := by simp [State.memWrite16]
@[simp] theorem State.memWrite16_halted (s : State) (a v : Word) : (s.memWrite16 a v).halted = s.halted := by simp [State.memWrite16]
@[simp] theorem State.memWrite16_ticks (s : State) (a v : Word) : (s.memWrite16 a v).ticks = s.ticks := by simp [State.memWrite16]
@[simp] theorem State.memWrite16_fault (s : State) (a v : Word) : (s.memWrite16 a v).fault = s.fault := by simp [State.memWrite16]
@[simp] theorem State.memWrite16_launch (s : State) (a v : Word) : (s.memWrite16 a v).launch = s.launch := by simp [State.memWrite16]
@[simp] theorem State.memWrite16_schedule (s : State) (a v : Word) : (s.memWrite16 a v).schedule = s.schedule := by simp [State.memWrite16]
@[simp] theorem State.memWrite16_draws (s : State) (a v : Word) : (s.memWrite16 a v).draws = s.draws := by simp [State.memWrite16]

@[simp] theorem State.push16_a (s : State) (v : Word) : (s.push16 v).a = s.a := by simp [State.push16]
@[simp] theorem State.push16_f (s : State) (v : Word) : (s.push16 v).f = s.f := by simp [State.push16]
@[simp] theorem State.push16_b (s : State) (v : Word) : (s.push16 v).b = s.b := by simp [State.push16]
@[simp] theorem State.push16_c (s : State) (v : Word) : (s.push16 v).c = s.c := by simp [State.push16]
@[simp] theorem State.push16_d (s : State) (v : Word) : (s.push16 v).d = s.d := by simp [State.push16]
@[simp] theorem State.push16_e (s : State) (v : Word) : (s.push16 v).e = s.e := by simp [State.push16]
@[simp] theorem State.push16_h (s : State) (v : Word) : (s.push16 v).h = s.h := by simp [State.push16]
@[simp] theorem State.push16_l (s : State) (v : Word) : (s.push16 v).l = s.l := by simp [State.push16]
@[simp] theorem State.push16_pc (s : State) (v : Word) : (s.push16 v).pc = s.pc := by simp [State.push16]
@[simp] theorem State.push16_ime (s : State) (v : Word) : (s.push16 v).ime = s.ime := by simp [State.push16]
@[simp] theorem State.push16_halted (s : State) (v : Word) : (s.push16 v).halted = s.halted := by simp [State.push16]
@[simp] theorem State.push16_ticks (s : State) (v : Word) : (s.push16 v).ticks = s.ticks := by simp [State.push16]
@[simp] theorem State.push16_fault (s : State) (v : Word) : (s.push16 v).fault = s.fault := by simp [State.push16]
@[simp] theorem State.push16_launch (s : State) (v : Word) : (s.push16 v).launch = s.launch := by simp [State.push16]
@[simp] theorem State.push16_schedule (s : State) (v : Word) : (s.push16 v).schedule = s.schedule := by simp [State.push16]
@[simp] theorem State.push16_draws (s : State) (v : Word) : (s.push16 v).draws = s.draws := by simp [State.push16]
@[simp] theorem State.push16_sp (s : State) (v : Word) : (s.push16 v).sp = s.sp - 2#16 := by
  simp only [State.push16, State.memWrite_sp]; bv_omega

@[simp] theorem State.pop16_a (s : State) : s.pop16.2.a = s.a := rfl
@[simp] theorem State.pop16_f (s : State) : s.pop16.2.f = s.f := rfl
@[simp] theorem State.pop16_b (s : State) : s.pop16.2.b = s.b := rfl
@[simp] theorem State.pop16_c (s : State) : s.pop16.2.c = s.c := rfl
@[simp] theorem State.pop16_d (s : State) : s.pop16.2.d = s.d := rfl
@[simp] theorem State.pop16_e (s : State) : s.pop16.2.e = s.e := rfl
@[simp] theorem State.pop16_h (s : State) : s.pop16.2.h = s.h := rfl
@[simp] theorem State.pop16_l (s : State) : s.pop16.2.l = s.l := rfl
@[simp] theorem State.pop16_pc (s : State) : s.pop16.2.pc = s.pc := rfl
@[simp] theorem State.pop16_ime (s : State) : s.pop16.2.ime = s.ime := rfl
@[simp] theorem State.pop16_halted (s : State) : s.pop16.2.halted = s.halted := rfl
@[simp] theorem State.pop16_ticks (s : State) : s.pop16.2.ticks = s.ticks := rfl
@[simp] theorem State.pop16_fault (s : State) : s.pop16.2.fault = s.fault := rfl
@[simp] theorem State.pop16_mem (s : State) : s.pop16.2.mem = s.mem := rfl
@[simp] theorem State.pop16_launch (s : State) : s.pop16.2.launch = s.launch := rfl
@[simp] theorem State.pop16_schedule (s : State) : s.pop16.2.schedule = s.schedule := rfl
@[simp] theorem State.pop16_draws (s : State) : s.pop16.2.draws = s.draws := rfl
@[simp] theorem State.pop16_sp (s : State) : s.pop16.2.sp = s.sp + 2#16 := by
  simp only [State.pop16]; bv_omega

@[simp] theorem State.raiseFault_a (s : State) (r : Fault) : (s.raiseFault r).a = s.a := rfl
@[simp] theorem State.raiseFault_f (s : State) (r : Fault) : (s.raiseFault r).f = s.f := rfl
@[simp] theorem State.raiseFault_b (s : State) (r : Fault) : (s.raiseFault r).b = s.b := rfl
@[simp] theorem State.raiseFault_c (s : State) (r : Fault) : (s.raiseFault r).c = s.c := rfl
@[simp] theorem State.raiseFault_d (s : State) (r : Fault) : (s.raiseFault r).d = s.d := rfl
@[simp] theorem State.raiseFault_e (s : State) (r : Fault) : (s.raiseFault r).e = s.e := rfl
@[simp] theorem State.raiseFault_h (s : State) (r : Fault) : (s.raiseFault r).h = s.h := rfl
@[simp] theorem State.raiseFault_l (s : State) (r : Fault) : (s.raiseFault r).l = s.l := rfl
@[simp] theorem State.raiseFault_sp (s : State) (r : Fault) : (s.raiseFault r).sp = s.sp := rfl
@[simp] theorem State.raiseFault_pc (s : State) (r : Fault) : (s.raiseFault r).pc = s.pc := rfl
@[simp] theorem State.raiseFault_ime (s : State) (r : Fault) : (s.raiseFault r).ime = s.ime := rfl
@[simp] theorem State.raiseFault_halted (s : State) (r : Fault) : (s.raiseFault r).halted = s.halted := rfl
@[simp] theorem State.raiseFault_ticks (s : State) (r : Fault) : (s.raiseFault r).ticks = s.ticks := rfl
@[simp] theorem State.raiseFault_mem (s : State) (r : Fault) : (s.raiseFault r).mem = s.mem := rfl
@[simp] theorem State.raiseFault_launch (s : State) (r : Fault) : (s.raiseFault r).launch = s.launch := rfl
@[simp] theorem State.raiseFault_schedule (s : State) (r : Fault) : (s.raiseFault r).schedule = s.schedule := rfl
@[simp] theorem State.raiseFault_draws (s : State) (r : Fault) : (s.raiseFault r).draws = s.draws := rfl

@[simp] theorem State.wakeUp_a (s : State) : (s.wakeUp).a = s.a := rfl
@[simp] theorem State.wakeUp_f (s : State) : (s.wakeUp).f = s.f := rfl
@[simp] theorem State.wakeUp_b (s : State) : (s.wakeUp).b = s.b := rfl
@[simp] theorem State.wakeUp_c (s : State) : (s.wakeUp).c = s.c := rfl
@[simp] theorem State.wakeUp_d (s : State) : (s.wakeUp).d = s.d := rfl
@[simp] theorem State.wakeUp_e (s : State) : (s.wakeUp).e = s.e := rfl
@[simp] theorem State.wakeUp_h (s : State) : (s.wakeUp).h = s.h := rfl
@[simp] theorem State.wakeUp_l (s : State) : (s.wakeUp).l = s.l := rfl
@[simp] theorem State.wakeUp_sp (s : State) : (s.wakeUp).sp = s.sp := rfl
@[simp] theorem State.wakeUp_pc (s : State) : (s.wakeUp).pc = s.pc := rfl
@[simp] theorem State.wakeUp_ime (s : State) : (s.wakeUp).ime = s.ime := rfl
@[simp] theorem State.wakeUp_ticks (s : State) : (s.wakeUp).ticks = s.ticks := rfl
@[simp] theorem State.wakeUp_fault (s : State) : (s.wakeUp).fault = s.fault := rfl
@[simp] theorem State.wakeUp_mem (s : State) : (s.wakeUp).mem = s.mem := rfl
@[simp] theorem State.wakeUp_launch (s : State) : (s.wakeUp).launch = s.launch := rfl
@[simp] theorem State.wakeUp_schedule (s : State) : (s.wakeUp).schedule = s.schedule := rfl
@[simp] theorem State.wakeUp_draws (s : State) : (s.wakeUp).draws = s.draws := rfl

@[simp] theorem State.idle_a (s : State) : (s.idle).a = s.a := rfl
@[simp] theorem State.idle_f (s : State) : (s.idle).f = s.f := rfl
@[simp] theorem State.idle_b (s : State) : (s.idle).b = s.b := rfl
@[simp] theorem State.idle_c (s : State) : (s.idle).c = s.c := rfl
@[simp] theorem State.idle_d (s : State) : (s.idle).d = s.d := rfl
@[simp] theorem State.idle_e (s : State) : (s.idle).e = s.e := rfl
@[simp] theorem State.idle_h (s : State) : (s.idle).h = s.h := rfl
@[simp] theorem State.idle_l (s : State) : (s.idle).l = s.l := rfl
@[simp] theorem State.idle_sp (s : State) : (s.idle).sp = s.sp := rfl
@[simp] theorem State.idle_pc (s : State) : (s.idle).pc = s.pc := rfl
@[simp] theorem State.idle_ime (s : State) : (s.idle).ime = s.ime := rfl
@[simp] theorem State.idle_halted (s : State) : (s.idle).halted = s.halted := rfl
@[simp] theorem State.idle_fault (s : State) : (s.idle).fault = s.fault := rfl
@[simp] theorem State.idle_mem (s : State) : (s.idle).mem = s.mem := rfl
@[simp] theorem State.idle_launch (s : State) : (s.idle).launch = s.launch := rfl
@[simp] theorem State.idle_schedule (s : State) : (s.idle).schedule = s.schedule := rfl
@[simp] theorem State.idle_draws (s : State) : (s.idle).draws = s.draws := rfl

@[simp] theorem State.raiseFault_fault (s : State) (r : Fault) : (s.raiseFault r).fault = some r := rfl
@[simp] theorem State.wakeUp_halted (s : State) : s.wakeUp.halted = false := rfl
@[simp] theorem State.idle_ticks (s : State) : s.idle.ticks = s.ticks + s.launch.haltIdleTicks := rfl

@[simp] theorem State.dispatchInterrupt_a (s : State) (v : Word) : (s.dispatchInterrupt v).a = s.a := by simp [State.dispatchInterrupt]
@[simp] theorem State.dispatchInterrupt_f (s : State) (v : Word) : (s.dispatchInterrupt v).f = s.f := by simp [State.dispatchInterrupt]
@[simp] theorem State.dispatchInterrupt_b (s : State) (v : Word) : (s.dispatchInterrupt v).b = s.b := by simp [State.dispatchInterrupt]
@[simp] theorem State.dispatchInterrupt_c (s : State) (v : Word) : (s.dispatchInterrupt v).c = s.c := by simp [State.dispatchInterrupt]
@[simp] theorem State.dispatchInterrupt_d (s : State) (v : Word) : (s.dispatchInterrupt v).d = s.d := by simp [State.dispatchInterrupt]
@[simp] theorem State.dispatchInterrupt_e (s : State) (v : Word) : (s.dispatchInterrupt v).e = s.e := by simp [State.dispatchInterrupt]
@[simp] theorem State.dispatchInterrupt_h (s : State) (v : Word) : (s.dispatchInterrupt v).h = s.h := by simp [State.dispatchInterrupt]
@[simp] theorem State.dispatchInterrupt_l (s : State) (v : Word) : (s.dispatchInterrupt v).l = s.l := by simp [State.dispatchInterrupt]
@[simp] theorem State.dispatchInterrupt_fault (s : State) (v : Word) : (s.dispatchInterrupt v).fault = s.fault := by simp [State.dispatchInterrupt]
@[simp] theorem State.dispatchInterrupt_launch (s : State) (v : Word) : (s.dispatchInterrupt v).launch = s.launch := by simp [State.dispatchInterrupt]
@[simp] theorem State.dispatchInterrupt_schedule (s : State) (v : Word) : (s.dispatchInterrupt v).schedule = s.schedule := by simp [State.dispatchInterrupt]
@[simp] theorem State.dispatchInterrupt_draws (s : State) (v : Word) : (s.dispatchInterrupt v).draws = s.draws := by simp [State.dispatchInterrupt]
@[simp] theorem State.dispatchInterrupt_pc (s : State) (v : Word) : (s.dispatchInterrupt v).pc = v := rfl
@[simp] theorem State.dispatchInterrupt_sp (s : State) (v : Word) : (s.dispatchInterrupt v).sp = s.sp - 2#16 := by
  simp [State.dispatchInterrupt]
@[simp] theorem State.dispatchInterrupt_ime (s : State) (v : Word) : (s.dispatchInterrupt v).ime = false := by
  simp [State.dispatchInterrupt]
@[simp] theorem State.dispatchInterrupt_halted (s : State) (v : Word) : (s.dispatchInterrupt v).halted = false := by
  simp [State.dispatchInterrupt]
@[simp] theorem State.dispatchInterrupt_ticks (s : State) (v : Word) :
    (s.dispatchInterrupt v).ticks = s.ticks + s.launch.intDispatchTicks := by
  simp [State.dispatchInterrupt]

@[simp] theorem writeTarget_f (t : Target8) (v : Byte) (s : State) : (writeTarget t v s).f = s.f := by cases t <;> simp [writeTarget]
@[simp] theorem writeTarget_pc (t : Target8) (v : Byte) (s : State) : (writeTarget t v s).pc = s.pc := by cases t <;> simp [writeTarget]
@[simp] theorem writeTarget_ime (t : Target8) (v : Byte) (s : State) : (writeTarget t v s).ime = s.ime := by cases t <;> simp [writeTarget]
@[simp] theorem writeTarget_halted (t : Target8) (v : Byte) (s : State) : (writeTarget t v s).halted = s.halted := by cases t <;> simp [writeTarget]
@[simp] theorem writeTarget_ticks (t : Target8) (v : Byte) (s : State) : (writeTarget t v s).ticks = s.ticks := by cases t <;> simp [writeTarget]
@[simp] theorem writeTarget_fault (t : Target8) (v : Byte) (s : State) : (writeTarget t v s).fault = s.fault := by cases t <;> simp [writeTarget]
@[simp] theorem writeTarget_launch (t : Target8) (v : Byte) (s : State) : (writeTarget t v s).launch = s.launch := by cases t <;> simp [writeTarget]
@[simp] theorem writeTarget_schedule (t : Target8) (v : Byte) (s : State) : (writeTarget t v s).schedule = s.schedule := by cases t <;> simp [writeTarget]
@[simp] theorem writeTarget_draws (t : Target8) (v : Byte) (s : State) : (writeTarget t v s).draws = s.draws := by cases t <;> simp [writeTarget]

@[simp] theorem Source8.read_f (src : Source8) (s : State) : (src.read s).2.f = s.f := by cases src <;> rfl
@[simp] theorem Source8.read_pc (src : Source8) (s : State) : (src.read s).2.pc = s.pc := by cases src <;> rfl
@[simp] theorem Source8.read_ime (src : Source8) (s : State) : (src.read s).2.ime = s.ime := by cases src <;> rfl
@[simp] theorem Source8.read_halted (src : Source8) (s : State) : (src.read s).2.halted = s.halted := by cases src <;> rfl
@[simp] theorem Source8.read_ticks (src : Source8) (s : State) : (src.read s).2.ticks = s.ticks := by cases src <;> rfl
@[simp] theorem Source8.read_fault (src : Source8) (s : State) : (src.read s).2.fault = s.fault := by cases src <;> rfl
@[simp] theorem Source8.read_mem (src : Source8) (s : State) : (src.read s).2.mem = s.mem := by cases src <;> rfl
@[simp] theorem Source8.read_launch (src : Source8) (s : State) : (src.read s).2.launch = s.launch := by cases src <;> rfl
@[simp] theorem Source8.read_schedule (src : Source8) (s : State) : (src.read s).2.schedule = s.schedule := by cases src <;> rfl
@[simp] theorem Source8.read_draws (src : Source8) (s : State) : (src.read s).2.draws = s.draws := by cases src <;> rfl
@[simp] theorem Source8.read_sp (src : Source8) (s : State) : (src.read s).2.sp = s.sp := by cases src <;> rfl

@[simp] theorem Dest8.write_f (dst : Dest8) (v : Byte) (s : State) : (dst.write v s).f = s.f := by cases dst <;> simp [Dest8.write]
@[simp] theorem Dest8.write_pc (dst : Dest8) (v : Byte) (s : State) : (dst.write v s).pc = s.pc := by cases dst <;> simp [Dest8.write]
@[simp] theorem Dest8.write_ime (dst : Dest8) (v : Byte) (s : State) : (dst.write v s).ime = s.ime := by cases dst <;> simp [Dest8.write]
@[simp] theorem Dest8.write_halted (dst : Dest8) (v : Byte) (s : State) : (dst.write v s).halted = s.halted := by cases dst <;> simp [Dest8.write]
@[simp] theorem Dest8.write_ticks (dst : Dest8) (v : Byte) (s : State) : (dst.write v s).ticks = s.ticks := by cases dst <;> simp [Dest8.write]
@[simp] theorem Dest8.write_fault (dst : Dest8) (v : Byte) (s : State) : (dst.write v s).fault = s.fault := by cases dst <;> simp [Dest8.write]
@[simp] theorem Dest8.write_launch (dst : Dest8) (v : Byte) (s : State) : (dst.write v s).launch = s.launch := by cases dst <;> simp [Dest8.write]
@[simp] theorem Dest8.write_schedule (dst : Dest8) (v : Byte) (s : State) : (dst.write v s).schedule = s.schedule := by cases dst <;> simp [Dest8.write]
@[simp] theorem Dest8.write_draws (dst : Dest8) (v : Byte) (s : State) : (dst.write v s).draws = s.draws := by cases dst <;> simp [Dest8.write]

end Sys2Proof.Machine
end

