-- ==== Sys2Proof/Laws/Ops.lean ====
section
/-! SUPPORT. One lemma for each shared operation that says what it can do: memory in a state, the stack primitives, the
operand adapters, the engine, and the boundary. Every operation that writes memory keeps its canonical form. -/

namespace Sys2Proof.Machine

/-! ### Memory in a state -/

/-- A write leaves everything but memory alone. -/
theorem State.memWrite_frame (s : State) (a : Word) (v : Byte) : { s.memWrite a v with mem := s.mem } = s := by
  unfold State.memWrite
  split <;> rfl

/-- A write keeps memory canonical. -/
theorem State.memWrite_wf {s : State} (h : s.mem.wf = true) (a : Word) (v : Byte) :
    (s.memWrite a v).mem.wf = true := by
  unfold State.memWrite
  split
  · exact h
  · exact Memory.wf_write h a.isLt v

/-- Which cells are volatile depends on the launch alone. -/
theorem State.isVolatile_congr {s t : State} (h : t.launch = s.launch) (a : Word) : t.isVolatile a = s.isVolatile a := by
  simp only [State.isVolatile, h]

/-- A read depends on the launch, the draw index and memory alone. -/
theorem State.memRead_congr {s t : State} (hl : t.launch = s.launch) (hd : t.draws = s.draws) (hm : t.mem = s.mem)
    (k : ReadSlot) (a : Word) : t.memRead k a = s.memRead k a := by
  unfold State.memRead
  rw [State.isVolatile_congr hl, hd, hm]

/-- What is known of a cell depends on the launch and memory alone. -/
theorem State.peek_congr {s t : State} (hl : t.launch = s.launch) (hm : t.mem = s.mem) (a : Word) :
    t.peek a = s.peek a := by
  unfold State.peek
  rw [State.isVolatile_congr hl, hm]

/-- What every cell is known to hold after a write: the byte at the written address, what it held everywhere else. -/
theorem State.peek_memWrite {s : State} (h : s.mem.wf = true) (a b : Word) (v : Byte) :
    (s.memWrite a v).peek b = if b = a then (s.peek b).map (fun _ => v) else s.peek b := by
  unfold State.peek
  rw [State.isVolatile_congr (State.memWrite_launch s a v)]
  by_cases hb : s.isVolatile b = true
  · simp [hb]
  · by_cases ha : s.isVolatile a = true
    · have hne : b ≠ a := fun e => hb (e ▸ ha)
      simp [hb, State.memWrite, ha, hne]
    · have hg := Memory.get_write h a.toNat b.toNat v
      simp only [hb, Bool.false_eq_true, if_false, State.memWrite, ha, hg, Option.map_some]
      by_cases he : b = a
      · simp [he]
      · have hn : b.toNat ≠ a.toNat := fun e => he (BitVec.eq_of_toNat_eq e)
        simp [he, hn]

/-- A cell that is known to hold a byte reads as that byte, in every read of a step. -/
theorem State.memRead_of_peek {s : State} {a : Word} {v : Byte} (h : s.peek a = some v) (k : ReadSlot) :
    s.memRead k a = v := by
  unfold State.peek at h
  unfold State.memRead
  split at h
  · cases h
  · rename_i hv
    simp only [hv, Bool.false_eq_true, if_false]
    exact Option.some.inj h

/-- A 16-bit write leaves everything but memory alone. -/
theorem State.memWrite16_frame (s : State) (a v : Word) : { s.memWrite16 a v with mem := s.mem } = s := by
  simp only [State.memWrite16, State.memWrite]
  repeat' split
  all_goals rfl

/-- A 16-bit write keeps memory canonical. -/
theorem State.memWrite16_wf {s : State} (h : s.mem.wf = true) (a v : Word) : (s.memWrite16 a v).mem.wf = true :=
  State.memWrite_wf (State.memWrite_wf h ..) ..

/-! ### The stack primitives -/

/-- Push16 takes SP down by two and leaves everything else but memory alone. -/
theorem State.push16_frame (s : State) (v : Word) : { s.push16 v with mem := s.mem } = { s with sp := s.sp - 2#16 } := by
  have h : s.sp - 1#16 - 1#16 = s.sp - 2#16 := by bv_omega
  simp only [State.push16, State.memWrite]
  repeat' split
  all_goals simp only [h]

/-- A write does not depend on SP. -/
theorem State.memWrite_withSP (s : State) (x a : Word) (v : Byte) :
    State.memWrite { s with sp := x } a v = { s.memWrite a v with sp := x } := by
  unfold State.memWrite State.isVolatile
  split <;> rfl

/-- Push16 as two writes of one byte each: the high byte at SP - 1, then the low byte at SP - 2. -/
theorem State.push16_eq (s : State) (v : Word) :
    s.push16 v = { (s.memWrite (s.sp - 1#16) (hi8 v)).memWrite (s.sp - 2#16) (lo8 v) with sp := s.sp - 2#16 } := by
  have h : s.sp - 1#16 - 1#16 = s.sp - 2#16 := by bv_omega
  simp only [State.push16, State.memWrite_withSP, h]

/-- Push16 keeps memory canonical. -/
theorem State.push16_wf {s : State} (h : s.mem.wf = true) (v : Word) : (s.push16 v).mem.wf = true := by
  have h1 := State.memWrite_wf (s := { s with sp := s.sp - 1#16 }) h (s.sp - 1#16) (hi8 v)
  exact State.memWrite_wf (s := { State.memWrite { s with sp := s.sp - 1#16 } (s.sp - 1#16) (hi8 v) with
    sp := (State.memWrite { s with sp := s.sp - 1#16 } (s.sp - 1#16) (hi8 v)).sp - 1#16 }) h1 _ _

/-- Pop16 takes SP up by two and leaves everything else alone. -/
theorem State.pop16_frame (s : State) : s.pop16.2 = { s with sp := s.sp + 2#16 } := by
  have h : s.sp + 1#16 + 1#16 = s.sp + 2#16 := by bv_omega
  simp only [State.pop16, h]

/-- Pop16 reads the low byte at SP and the high byte at SP + 1. -/
theorem State.pop16_word (s : State) :
    s.pop16.1 = cat16 (s.memRead .data2 (s.sp + 1#16)) (s.memRead .data1 s.sp) := rfl

/-! ### The operand adapters -/

/-- Writing an operand keeps memory canonical. -/
theorem Dest8.write_wf {s : State} (h : s.mem.wf = true) (dst : Dest8) (v : Byte) : (dst.write v s).mem.wf = true := by
  have hp : ∀ w, (s.setPair .HL w).mem.wf = true := fun _ => h
  cases dst <;> simp only [Dest8.write]
  case reg r => simpa using h
  all_goals first | exact State.memWrite_wf h .. | exact State.memWrite_wf (hp _) ..

/-- Writing a read-modify-write operand back keeps memory canonical. -/
theorem writeTarget_wf {s : State} (h : s.mem.wf = true) (t : Target8) (v : Byte) :
    (writeTarget t v s).mem.wf = true := by
  cases t with
  | reg r => simpa [writeTarget] using h
  | atHL => exact State.memWrite_wf h ..

/-! ### The engine -/

/-- What the engine answers: the microcode's state, with F through the gate, the cost charged, and pc by the outcome. -/
theorem engine_next (d : Descriptor) (micro : Microcode) (s : State) :
    engine d micro s = .next { (micro s).state with
      f := commit d.gate s.flags (micro s).flags
      ticks := (micro s).state.ticks + cycleCost s.launch d.row d.cost (micro s).taken
      pc := if (micro s).taken then (micro s).state.pc else (micro s).state.pc + BitVec.ofNat 16 d.length
      draws := (micro s).state.draws + 1 } := rfl

/-- A row with a fixed cost is charged the same whatever the outcome. -/
theorem cycleCost_default {launch : Launch} {row : Nat} (h : launch.cycles.lookup row = none) (d : Cost) (taken : Bool) :
    cycleCost launch row d taken = if taken then d.taken else d.notTaken := by
  simp [cycleCost, h]

/-- The gate `----` keeps the four flags and clears bits 3 to 0. -/
theorem commit_unaffected (f : Byte) (p : Flags) : commit gxxxx (Flags.ofByte f) p = f &&& 0xF0#8 := by
  have h : ∀ f : Byte, Flags.toByte (Flags.ofByte f) = f &&& 0xF0#8 := by decide
  exact h f

/-- A conditional branch whose condition holds runs its branch. -/
theorem microIf_taken {cc : Cond} {s : State} (h : condHolds cc s.flags = true) (branch : Microcode) :
    microIf cc branch s = branch s := by
  simp [microIf, h]

/-- One whose condition fails leaves the state alone and is sequential. -/
theorem microIf_notTaken {cc : Cond} {s : State} (h : condHolds cc s.flags = false) (branch : Microcode) :
    microIf cc branch s = { state := s } := by
  simp [microIf, h]

/-! ### Interrupts and the boundary -/

/-- Vector(v) changes IME, HALTED, SP, pc, ticks and memory, and nothing else. -/
theorem State.dispatchInterrupt_frame (s : State) (v : Word) :
    { s.dispatchInterrupt v with mem := s.mem } =
      { s with ime := false, halted := false, sp := s.sp - 2#16, pc := v,
               ticks := s.ticks + s.launch.intDispatchTicks } := by
  have h : s.sp - 1#16 - 1#16 = s.sp - 2#16 := by bv_omega
  simp only [State.dispatchInterrupt, State.push16, State.memWrite]
  repeat' split
  all_goals simp only [h]

/-- Vector(v) keeps memory canonical. -/
theorem State.dispatchInterrupt_wf {s : State} (h : s.mem.wf = true) (v : Word) :
    (s.dispatchInterrupt v).mem.wf = true :=
  State.push16_wf (s := { s with ime := false, halted := false }) h ..

/-- Everything that a step of the core can do. -/
theorem coreStep_cases {s t : State} (h : coreStep s = .next t) :
    (s.halted = true ∧ t = s.idle) ∨ (s.halted = false ∧ exec s.fetch s = .next t) := by
  unfold coreStep at h
  split at h
  · rename_i hh
    exact .inl ⟨hh, by injection h with h; exact h.symm⟩
  · rename_i hh
    exact .inr ⟨by simpa using hh, h⟩

/-- Everything that a boundary can do in a state whose move has been taken off the schedule. -/
theorem boundaryMove_cases {m : CollaboratorMove} {s t : State} (h : boundaryMove m s = .next t) :
    coreStep s = .next t ∨
    (∃ v, m = .vector v ∧ s.vectorEnabled v = true ∧ t = s.dispatchInterrupt v) ∨
    (m = .wake ∧ s.wakeEnabled = true ∧ t = s.wakeUp) := by
  unfold boundaryMove at h
  split at h
  · exact .inl h
  · split at h
    · rename_i v hv
      exact .inr (.inl ⟨v, rfl, hv, by injection h with h; exact h.symm⟩)
    · exact .inl h
  · split at h
    · rename_i hw
      exact .inr (.inr ⟨rfl, hw, by injection h with h; exact h.symm⟩)
    · exact .inl h

/-! ### The schedule -/

@[simp] theorem Schedule.head_quiet : Schedule.quiet.head = .pass := rfl
@[simp] theorem Schedule.tail_quiet : Schedule.quiet.tail = .quiet := rfl
@[simp] theorem Schedule.head_first (m : CollaboratorMove) (rest : Schedule) : (Schedule.first m rest).head = m := rfl
@[simp] theorem Schedule.tail_first (m : CollaboratorMove) (rest : Schedule) : (Schedule.first m rest).tail = rest := rfl
@[simp] theorem Schedule.head_again (m : CollaboratorMove) (later : List CollaboratorMove) :
    (Schedule.again m later).head = m := rfl
@[simp] theorem Schedule.tail_again_one (m : CollaboratorMove) : (Schedule.again m []).tail = .again m [] := rfl
@[simp] theorem Schedule.tail_again_more (m x : CollaboratorMove) (later : List CollaboratorMove) :
    (Schedule.again m (x :: later)).tail = .again x (later ++ [m]) := rfl
@[simp] theorem Schedule.head_free (n : Nat) : (Schedule.free n).head = Config.collaboratorMove n := rfl
@[simp] theorem Schedule.tail_free (n : Nat) : (Schedule.free n).tail = .free (n + 1) := rfl

/-- A quiet schedule stays quiet. -/
theorem Schedule.quiet_after (k : Nat) : Schedule.tail^[k] .quiet = .quiet :=
  Function.iterate_fixed rfl k

/-- One move that comes round without end is the move of every boundary (R320). -/
theorem Schedule.again_one_after (m : CollaboratorMove) (k : Nat) : Schedule.tail^[k] (.again m []) = .again m [] :=
  Function.iterate_fixed rfl k

/-- The move of a free schedule at each later boundary is that boundary's own free value (R320). -/
theorem Schedule.free_after (n k : Nat) : Schedule.tail^[k] (.free n) = .free (n + k) := by
  induction k generalizing n with
  | zero => rfl
  | succ k ih => simp [Function.iterate_succ_apply, ih, Nat.add_comm, Nat.add_left_comm]

/-- How a period turns: after the moves before `z` have been played, `z` is next and they stand at the end. -/
theorem Schedule.again_turns (y z : CollaboratorMove) (xs ys : List CollaboratorMove) :
    Schedule.tail^[xs.length + 1] (.again y (xs ++ z :: ys)) = .again z (ys ++ y :: xs) := by
  induction xs generalizing y ys with
  | nil => rfl
  | cons x xs ih =>
    rw [List.length_cons, Function.iterate_succ_apply, List.cons_append, Schedule.tail_again_more, List.append_assoc,
      List.cons_append, ih]
    simp

/-- A period comes round: once all of it has been played, the schedule is as it was. -/
theorem Schedule.again_after_period (m : CollaboratorMove) (later : List CollaboratorMove) :
    Schedule.tail^[later.length + 1] (.again m later) = .again m later := by
  rcases later.eq_nil_or_concat with rfl | ⟨xs, z, rfl⟩
  · rfl
  · rw [List.concat_eq_append, List.length_append, List.length_singleton, Function.iterate_succ_apply',
      Schedule.again_turns]
    rfl

/-- A step of a machine without fault is the schedule's next move, made in the state from whose schedule it is taken. -/
theorem step_eq_boundaryMove {s : State} (h : s.fault = none) :
    step s = boundaryMove s.schedule.head { s with schedule := s.schedule.tail } := by
  simp [step, boundaryStep, h]

/-- With a quiet schedule a step is a step of the core. -/
theorem step_eq_coreStep {s : State} (h : s.fault = none) (hq : s.schedule = .quiet) : step s = coreStep s := by
  have hs : { s with schedule := s.schedule.tail } = s := by cases s; simp_all
  rw [step_eq_boundaryMove h, hs, hq]
  rfl

/-- A move that is not enabled gives way to a step of the core (log entry 4). -/
theorem boundaryMove_not_enabled {m : CollaboratorMove} {s : State} (hv : ∀ v, m = .vector v → s.vectorEnabled v = false)
    (hw : m = .wake → s.wakeEnabled = false) : boundaryMove m s = coreStep s := by
  cases m <;> simp_all [boundaryMove]

/-- Everything that a step can do: FAULT was none, and after the next move is taken off the schedule, the core steps, or an
enabled Vector or Wake happens. -/
theorem step_cases {s t : State} (h : step s = .next t) :
    s.fault = none ∧ ∃ u : State, u = { s with schedule := s.schedule.tail } ∧
      (coreStep u = .next t ∨
        (∃ v, s.schedule.head = .vector v ∧ u.vectorEnabled v = true ∧ t = u.dispatchInterrupt v) ∨
        (s.schedule.head = .wake ∧ u.wakeEnabled = true ∧ t = u.wakeUp)) := by
  have hf : s.fault = none := by
    unfold step boundaryStep at h
    split at h
    · cases h
    · assumption
  rw [step_eq_boundaryMove hf] at h
  exact ⟨hf, _, rfl, boundaryMove_cases h⟩

/-! ### Placing an instruction -/

/-- Storing bytes keeps memory canonical. -/
theorem State.storeBytes_wf {s : State} (h : s.mem.wf = true) (bytes : List Byte) (a : Word) :
    (s.storeBytes a bytes).mem.wf = true := by
  induction bytes generalizing s a with
  | nil => exact h
  | cons v rest ih => exact ih (State.memWrite_wf h a v) (a + 1#16)

/-- Placing an instruction for the next fetch keeps memory canonical. -/
theorem State.withFetchWord_wf {s : State} (h : s.mem.wf = true) (nbits w : Nat) :
    (s.withFetchWord nbits w).mem.wf = true := by
  have hp : s.withPlainFetch.mem.wf = true := by
    unfold State.withPlainFetch
    split <;> exact h
  exact State.storeBytes_wf hp ..

end Sys2Proof.Machine
end

