-- ==== Sys2Proof/Laws/PerInstr.lean ====
section
/-! SUPPORT. A law made per instruction: the length that the first byte tells (30_encoding.md R86) is the number of bytes of
the encoding, so that the fetch takes exactly the instruction's own bytes. -/

namespace Sys2Proof.Laws.EncodingLength

/-- The encoding of a well-formed instruction begins with a byte that tells its length. -/
def Statement (i : Instr) : Prop :=
  i.wellFormed = true → ∃ op rest, encode i = op :: rest ∧ instrLength op = (encode i).length

/-- How each case is met: by writing the encoding down and computing the length. -/
theorem of_bytes {i : Instr} (op : Byte) (rest : List Byte) (h : encode i = op :: rest)
    (hl : instrLength op = rest.length + 1) : Statement i :=
  fun _ => ⟨op, rest, h, by rw [h]; exact hl⟩

theorem nop : Statement Instr.nop := of_bytes _ _ rfl rfl
theorem ld_BC_d16 (nn : Word) : Statement (Instr.ld_BC_d16 nn) := of_bytes _ _ rfl rfl
theorem ld_atBC_A : Statement Instr.ld_atBC_A := of_bytes _ _ rfl rfl
theorem inc_BC : Statement Instr.inc_BC := of_bytes _ _ rfl rfl
theorem inc_B : Statement Instr.inc_B := of_bytes _ _ rfl rfl
theorem dec_B : Statement Instr.dec_B := of_bytes _ _ rfl rfl
theorem ld_B_d8 (n : Byte) : Statement (Instr.ld_B_d8 n) := of_bytes _ _ rfl rfl
theorem rlca : Statement Instr.rlca := of_bytes _ _ rfl rfl
theorem ld_atA16_SP (addr : Word) : Statement (Instr.ld_atA16_SP addr) := of_bytes _ _ rfl rfl
theorem add_HL_BC : Statement Instr.add_HL_BC := of_bytes _ _ rfl rfl
theorem ld_A_atBC : Statement Instr.ld_A_atBC := of_bytes _ _ rfl rfl
theorem dec_BC : Statement Instr.dec_BC := of_bytes _ _ rfl rfl
theorem inc_C : Statement Instr.inc_C := of_bytes _ _ rfl rfl
theorem dec_C : Statement Instr.dec_C := of_bytes _ _ rfl rfl
theorem ld_C_d8 (n : Byte) : Statement (Instr.ld_C_d8 n) := of_bytes _ _ rfl rfl
theorem rrca : Statement Instr.rrca := of_bytes _ _ rfl rfl
theorem stop (n : Byte) : Statement (Instr.stop n) := of_bytes _ _ rfl rfl
theorem ld_DE_d16 (nn : Word) : Statement (Instr.ld_DE_d16 nn) := of_bytes _ _ rfl rfl
theorem ld_atDE_A : Statement Instr.ld_atDE_A := of_bytes _ _ rfl rfl
theorem inc_DE : Statement Instr.inc_DE := of_bytes _ _ rfl rfl
theorem inc_D : Statement Instr.inc_D := of_bytes _ _ rfl rfl
theorem dec_D : Statement Instr.dec_D := of_bytes _ _ rfl rfl
theorem ld_D_d8 (n : Byte) : Statement (Instr.ld_D_d8 n) := of_bytes _ _ rfl rfl
theorem rla : Statement Instr.rla := of_bytes _ _ rfl rfl
theorem jr_r8 (e : Byte) : Statement (Instr.jr_r8 e) := of_bytes _ _ rfl rfl
theorem add_HL_DE : Statement Instr.add_HL_DE := of_bytes _ _ rfl rfl
theorem ld_A_atDE : Statement Instr.ld_A_atDE := of_bytes _ _ rfl rfl
theorem dec_DE : Statement Instr.dec_DE := of_bytes _ _ rfl rfl
theorem inc_E : Statement Instr.inc_E := of_bytes _ _ rfl rfl
theorem dec_E : Statement Instr.dec_E := of_bytes _ _ rfl rfl
theorem ld_E_d8 (n : Byte) : Statement (Instr.ld_E_d8 n) := of_bytes _ _ rfl rfl
theorem rra : Statement Instr.rra := of_bytes _ _ rfl rfl
theorem jr_NZ_r8 (e : Byte) : Statement (Instr.jr_NZ_r8 e) := of_bytes _ _ rfl rfl
theorem ld_HL_d16 (nn : Word) : Statement (Instr.ld_HL_d16 nn) := of_bytes _ _ rfl rfl
theorem ld_atHLinc_A : Statement Instr.ld_atHLinc_A := of_bytes _ _ rfl rfl
theorem inc_HL : Statement Instr.inc_HL := of_bytes _ _ rfl rfl
theorem inc_H : Statement Instr.inc_H := of_bytes _ _ rfl rfl
theorem dec_H : Statement Instr.dec_H := of_bytes _ _ rfl rfl
theorem ld_H_d8 (n : Byte) : Statement (Instr.ld_H_d8 n) := of_bytes _ _ rfl rfl
theorem daa : Statement Instr.daa := of_bytes _ _ rfl rfl
theorem jr_Z_r8 (e : Byte) : Statement (Instr.jr_Z_r8 e) := of_bytes _ _ rfl rfl
theorem add_HL_HL : Statement Instr.add_HL_HL := of_bytes _ _ rfl rfl
theorem ld_A_atHLinc : Statement Instr.ld_A_atHLinc := of_bytes _ _ rfl rfl
theorem dec_HL : Statement Instr.dec_HL := of_bytes _ _ rfl rfl
theorem inc_L : Statement Instr.inc_L := of_bytes _ _ rfl rfl
theorem dec_L : Statement Instr.dec_L := of_bytes _ _ rfl rfl
theorem ld_L_d8 (n : Byte) : Statement (Instr.ld_L_d8 n) := of_bytes _ _ rfl rfl
theorem cpl : Statement Instr.cpl := of_bytes _ _ rfl rfl
theorem jr_NC_r8 (e : Byte) : Statement (Instr.jr_NC_r8 e) := of_bytes _ _ rfl rfl
theorem ld_SP_d16 (nn : Word) : Statement (Instr.ld_SP_d16 nn) := of_bytes _ _ rfl rfl
theorem ld_atHLdec_A : Statement Instr.ld_atHLdec_A := of_bytes _ _ rfl rfl
theorem inc_SP : Statement Instr.inc_SP := of_bytes _ _ rfl rfl
theorem inc_atHL : Statement Instr.inc_atHL := of_bytes _ _ rfl rfl
theorem dec_atHL : Statement Instr.dec_atHL := of_bytes _ _ rfl rfl
theorem ld_atHL_d8 (n : Byte) : Statement (Instr.ld_atHL_d8 n) := of_bytes _ _ rfl rfl
theorem scf : Statement Instr.scf := of_bytes _ _ rfl rfl
theorem jr_C_r8 (e : Byte) : Statement (Instr.jr_C_r8 e) := of_bytes _ _ rfl rfl
theorem add_HL_SP : Statement Instr.add_HL_SP := of_bytes _ _ rfl rfl
theorem ld_A_atHLdec : Statement Instr.ld_A_atHLdec := of_bytes _ _ rfl rfl
theorem dec_SP : Statement Instr.dec_SP := of_bytes _ _ rfl rfl
theorem inc_A : Statement Instr.inc_A := of_bytes _ _ rfl rfl
theorem dec_A : Statement Instr.dec_A := of_bytes _ _ rfl rfl
theorem ld_A_d8 (n : Byte) : Statement (Instr.ld_A_d8 n) := of_bytes _ _ rfl rfl
theorem ccf : Statement Instr.ccf := of_bytes _ _ rfl rfl
theorem ld_B_B : Statement Instr.ld_B_B := of_bytes _ _ rfl rfl
theorem ld_B_C : Statement Instr.ld_B_C := of_bytes _ _ rfl rfl
theorem ld_B_D : Statement Instr.ld_B_D := of_bytes _ _ rfl rfl
theorem ld_B_E : Statement Instr.ld_B_E := of_bytes _ _ rfl rfl
theorem ld_B_H : Statement Instr.ld_B_H := of_bytes _ _ rfl rfl
theorem ld_B_L : Statement Instr.ld_B_L := of_bytes _ _ rfl rfl
theorem ld_B_atHL : Statement Instr.ld_B_atHL := of_bytes _ _ rfl rfl
theorem ld_B_A : Statement Instr.ld_B_A := of_bytes _ _ rfl rfl
theorem ld_C_B : Statement Instr.ld_C_B := of_bytes _ _ rfl rfl
theorem ld_C_C : Statement Instr.ld_C_C := of_bytes _ _ rfl rfl
theorem ld_C_D : Statement Instr.ld_C_D := of_bytes _ _ rfl rfl
theorem ld_C_E : Statement Instr.ld_C_E := of_bytes _ _ rfl rfl
theorem ld_C_H : Statement Instr.ld_C_H := of_bytes _ _ rfl rfl
theorem ld_C_L : Statement Instr.ld_C_L := of_bytes _ _ rfl rfl
theorem ld_C_atHL : Statement Instr.ld_C_atHL := of_bytes _ _ rfl rfl
theorem ld_C_A : Statement Instr.ld_C_A := of_bytes _ _ rfl rfl
theorem ld_D_B : Statement Instr.ld_D_B := of_bytes _ _ rfl rfl
theorem ld_D_C : Statement Instr.ld_D_C := of_bytes _ _ rfl rfl
theorem ld_D_D : Statement Instr.ld_D_D := of_bytes _ _ rfl rfl
theorem ld_D_E : Statement Instr.ld_D_E := of_bytes _ _ rfl rfl
theorem ld_D_H : Statement Instr.ld_D_H := of_bytes _ _ rfl rfl
theorem ld_D_L : Statement Instr.ld_D_L := of_bytes _ _ rfl rfl
theorem ld_D_atHL : Statement Instr.ld_D_atHL := of_bytes _ _ rfl rfl
theorem ld_D_A : Statement Instr.ld_D_A := of_bytes _ _ rfl rfl
theorem ld_E_B : Statement Instr.ld_E_B := of_bytes _ _ rfl rfl
theorem ld_E_C : Statement Instr.ld_E_C := of_bytes _ _ rfl rfl
theorem ld_E_D : Statement Instr.ld_E_D := of_bytes _ _ rfl rfl
theorem ld_E_E : Statement Instr.ld_E_E := of_bytes _ _ rfl rfl
theorem ld_E_H : Statement Instr.ld_E_H := of_bytes _ _ rfl rfl
theorem ld_E_L : Statement Instr.ld_E_L := of_bytes _ _ rfl rfl
theorem ld_E_atHL : Statement Instr.ld_E_atHL := of_bytes _ _ rfl rfl
theorem ld_E_A : Statement Instr.ld_E_A := of_bytes _ _ rfl rfl
theorem ld_H_B : Statement Instr.ld_H_B := of_bytes _ _ rfl rfl
theorem ld_H_C : Statement Instr.ld_H_C := of_bytes _ _ rfl rfl
theorem ld_H_D : Statement Instr.ld_H_D := of_bytes _ _ rfl rfl
theorem ld_H_E : Statement Instr.ld_H_E := of_bytes _ _ rfl rfl
theorem ld_H_H : Statement Instr.ld_H_H := of_bytes _ _ rfl rfl
theorem ld_H_L : Statement Instr.ld_H_L := of_bytes _ _ rfl rfl
theorem ld_H_atHL : Statement Instr.ld_H_atHL := of_bytes _ _ rfl rfl
theorem ld_H_A : Statement Instr.ld_H_A := of_bytes _ _ rfl rfl
theorem ld_L_B : Statement Instr.ld_L_B := of_bytes _ _ rfl rfl
theorem ld_L_C : Statement Instr.ld_L_C := of_bytes _ _ rfl rfl
theorem ld_L_D : Statement Instr.ld_L_D := of_bytes _ _ rfl rfl
theorem ld_L_E : Statement Instr.ld_L_E := of_bytes _ _ rfl rfl
theorem ld_L_H : Statement Instr.ld_L_H := of_bytes _ _ rfl rfl
theorem ld_L_L : Statement Instr.ld_L_L := of_bytes _ _ rfl rfl
theorem ld_L_atHL : Statement Instr.ld_L_atHL := of_bytes _ _ rfl rfl
theorem ld_L_A : Statement Instr.ld_L_A := of_bytes _ _ rfl rfl
theorem ld_atHL_B : Statement Instr.ld_atHL_B := of_bytes _ _ rfl rfl
theorem ld_atHL_C : Statement Instr.ld_atHL_C := of_bytes _ _ rfl rfl
theorem ld_atHL_D : Statement Instr.ld_atHL_D := of_bytes _ _ rfl rfl
theorem ld_atHL_E : Statement Instr.ld_atHL_E := of_bytes _ _ rfl rfl
theorem ld_atHL_H : Statement Instr.ld_atHL_H := of_bytes _ _ rfl rfl
theorem ld_atHL_L : Statement Instr.ld_atHL_L := of_bytes _ _ rfl rfl
theorem halt : Statement Instr.halt := of_bytes _ _ rfl rfl
theorem ld_atHL_A : Statement Instr.ld_atHL_A := of_bytes _ _ rfl rfl
theorem ld_A_B : Statement Instr.ld_A_B := of_bytes _ _ rfl rfl
theorem ld_A_C : Statement Instr.ld_A_C := of_bytes _ _ rfl rfl
theorem ld_A_D : Statement Instr.ld_A_D := of_bytes _ _ rfl rfl
theorem ld_A_E : Statement Instr.ld_A_E := of_bytes _ _ rfl rfl
theorem ld_A_H : Statement Instr.ld_A_H := of_bytes _ _ rfl rfl
theorem ld_A_L : Statement Instr.ld_A_L := of_bytes _ _ rfl rfl
theorem ld_A_atHL : Statement Instr.ld_A_atHL := of_bytes _ _ rfl rfl
theorem ld_A_A : Statement Instr.ld_A_A := of_bytes _ _ rfl rfl
theorem add_A_B : Statement Instr.add_A_B := of_bytes _ _ rfl rfl
theorem add_A_C : Statement Instr.add_A_C := of_bytes _ _ rfl rfl
theorem add_A_D : Statement Instr.add_A_D := of_bytes _ _ rfl rfl
theorem add_A_E : Statement Instr.add_A_E := of_bytes _ _ rfl rfl
theorem add_A_H : Statement Instr.add_A_H := of_bytes _ _ rfl rfl
theorem add_A_L : Statement Instr.add_A_L := of_bytes _ _ rfl rfl
theorem add_A_atHL : Statement Instr.add_A_atHL := of_bytes _ _ rfl rfl
theorem add_A_A : Statement Instr.add_A_A := of_bytes _ _ rfl rfl
theorem adc_A_B : Statement Instr.adc_A_B := of_bytes _ _ rfl rfl
theorem adc_A_C : Statement Instr.adc_A_C := of_bytes _ _ rfl rfl
theorem adc_A_D : Statement Instr.adc_A_D := of_bytes _ _ rfl rfl
theorem adc_A_E : Statement Instr.adc_A_E := of_bytes _ _ rfl rfl
theorem adc_A_H : Statement Instr.adc_A_H := of_bytes _ _ rfl rfl
theorem adc_A_L : Statement Instr.adc_A_L := of_bytes _ _ rfl rfl
theorem adc_A_atHL : Statement Instr.adc_A_atHL := of_bytes _ _ rfl rfl
theorem adc_A_A : Statement Instr.adc_A_A := of_bytes _ _ rfl rfl
theorem sub_B : Statement Instr.sub_B := of_bytes _ _ rfl rfl
theorem sub_C : Statement Instr.sub_C := of_bytes _ _ rfl rfl
theorem sub_D : Statement Instr.sub_D := of_bytes _ _ rfl rfl
theorem sub_E : Statement Instr.sub_E := of_bytes _ _ rfl rfl
theorem sub_H : Statement Instr.sub_H := of_bytes _ _ rfl rfl
theorem sub_L : Statement Instr.sub_L := of_bytes _ _ rfl rfl
theorem sub_atHL : Statement Instr.sub_atHL := of_bytes _ _ rfl rfl
theorem sub_A : Statement Instr.sub_A := of_bytes _ _ rfl rfl
theorem sbc_A_B : Statement Instr.sbc_A_B := of_bytes _ _ rfl rfl
theorem sbc_A_C : Statement Instr.sbc_A_C := of_bytes _ _ rfl rfl
theorem sbc_A_D : Statement Instr.sbc_A_D := of_bytes _ _ rfl rfl
theorem sbc_A_E : Statement Instr.sbc_A_E := of_bytes _ _ rfl rfl
theorem sbc_A_H : Statement Instr.sbc_A_H := of_bytes _ _ rfl rfl
theorem sbc_A_L : Statement Instr.sbc_A_L := of_bytes _ _ rfl rfl
theorem sbc_A_atHL : Statement Instr.sbc_A_atHL := of_bytes _ _ rfl rfl
theorem sbc_A_A : Statement Instr.sbc_A_A := of_bytes _ _ rfl rfl
theorem and_B : Statement Instr.and_B := of_bytes _ _ rfl rfl
theorem and_C : Statement Instr.and_C := of_bytes _ _ rfl rfl
theorem and_D : Statement Instr.and_D := of_bytes _ _ rfl rfl
theorem and_E : Statement Instr.and_E := of_bytes _ _ rfl rfl
theorem and_H : Statement Instr.and_H := of_bytes _ _ rfl rfl
theorem and_L : Statement Instr.and_L := of_bytes _ _ rfl rfl
theorem and_atHL : Statement Instr.and_atHL := of_bytes _ _ rfl rfl
theorem and_A : Statement Instr.and_A := of_bytes _ _ rfl rfl
theorem xor_B : Statement Instr.xor_B := of_bytes _ _ rfl rfl
theorem xor_C : Statement Instr.xor_C := of_bytes _ _ rfl rfl
theorem xor_D : Statement Instr.xor_D := of_bytes _ _ rfl rfl
theorem xor_E : Statement Instr.xor_E := of_bytes _ _ rfl rfl
theorem xor_H : Statement Instr.xor_H := of_bytes _ _ rfl rfl
theorem xor_L : Statement Instr.xor_L := of_bytes _ _ rfl rfl
theorem xor_atHL : Statement Instr.xor_atHL := of_bytes _ _ rfl rfl
theorem xor_A : Statement Instr.xor_A := of_bytes _ _ rfl rfl
theorem or_B : Statement Instr.or_B := of_bytes _ _ rfl rfl
theorem or_C : Statement Instr.or_C := of_bytes _ _ rfl rfl
theorem or_D : Statement Instr.or_D := of_bytes _ _ rfl rfl
theorem or_E : Statement Instr.or_E := of_bytes _ _ rfl rfl
theorem or_H : Statement Instr.or_H := of_bytes _ _ rfl rfl
theorem or_L : Statement Instr.or_L := of_bytes _ _ rfl rfl
theorem or_atHL : Statement Instr.or_atHL := of_bytes _ _ rfl rfl
theorem or_A : Statement Instr.or_A := of_bytes _ _ rfl rfl
theorem cp_B : Statement Instr.cp_B := of_bytes _ _ rfl rfl
theorem cp_C : Statement Instr.cp_C := of_bytes _ _ rfl rfl
theorem cp_D : Statement Instr.cp_D := of_bytes _ _ rfl rfl
theorem cp_E : Statement Instr.cp_E := of_bytes _ _ rfl rfl
theorem cp_H : Statement Instr.cp_H := of_bytes _ _ rfl rfl
theorem cp_L : Statement Instr.cp_L := of_bytes _ _ rfl rfl
theorem cp_atHL : Statement Instr.cp_atHL := of_bytes _ _ rfl rfl
theorem cp_A : Statement Instr.cp_A := of_bytes _ _ rfl rfl
theorem ret_NZ : Statement Instr.ret_NZ := of_bytes _ _ rfl rfl
theorem pop_BC : Statement Instr.pop_BC := of_bytes _ _ rfl rfl
theorem jp_NZ_a16 (addr : Word) : Statement (Instr.jp_NZ_a16 addr) := of_bytes _ _ rfl rfl
theorem jp_a16 (addr : Word) : Statement (Instr.jp_a16 addr) := of_bytes _ _ rfl rfl
theorem call_NZ_a16 (addr : Word) : Statement (Instr.call_NZ_a16 addr) := of_bytes _ _ rfl rfl
theorem push_BC : Statement Instr.push_BC := of_bytes _ _ rfl rfl
theorem add_A_d8 (n : Byte) : Statement (Instr.add_A_d8 n) := of_bytes _ _ rfl rfl
theorem rst_00H : Statement Instr.rst_00H := of_bytes _ _ rfl rfl
theorem ret_Z : Statement Instr.ret_Z := of_bytes _ _ rfl rfl
theorem ret : Statement Instr.ret := of_bytes _ _ rfl rfl
theorem jp_Z_a16 (addr : Word) : Statement (Instr.jp_Z_a16 addr) := of_bytes _ _ rfl rfl
theorem prefix_CB : Statement Instr.prefix_CB := fun h => Bool.noConfusion h
theorem call_Z_a16 (addr : Word) : Statement (Instr.call_Z_a16 addr) := of_bytes _ _ rfl rfl
theorem call_a16 (addr : Word) : Statement (Instr.call_a16 addr) := of_bytes _ _ rfl rfl
theorem adc_A_d8 (n : Byte) : Statement (Instr.adc_A_d8 n) := of_bytes _ _ rfl rfl
theorem rst_08H : Statement Instr.rst_08H := of_bytes _ _ rfl rfl
theorem ret_NC : Statement Instr.ret_NC := of_bytes _ _ rfl rfl
theorem pop_DE : Statement Instr.pop_DE := of_bytes _ _ rfl rfl
theorem jp_NC_a16 (addr : Word) : Statement (Instr.jp_NC_a16 addr) := of_bytes _ _ rfl rfl
theorem invalid_D3 : Statement Instr.invalid_D3 := of_bytes _ _ rfl rfl
theorem call_NC_a16 (addr : Word) : Statement (Instr.call_NC_a16 addr) := of_bytes _ _ rfl rfl
theorem push_DE : Statement Instr.push_DE := of_bytes _ _ rfl rfl
theorem sub_d8 (n : Byte) : Statement (Instr.sub_d8 n) := of_bytes _ _ rfl rfl
theorem rst_10H : Statement Instr.rst_10H := of_bytes _ _ rfl rfl
theorem ret_C : Statement Instr.ret_C := of_bytes _ _ rfl rfl
theorem reti : Statement Instr.reti := of_bytes _ _ rfl rfl
theorem jp_C_a16 (addr : Word) : Statement (Instr.jp_C_a16 addr) := of_bytes _ _ rfl rfl
theorem invalid_DB : Statement Instr.invalid_DB := of_bytes _ _ rfl rfl
theorem call_C_a16 (addr : Word) : Statement (Instr.call_C_a16 addr) := of_bytes _ _ rfl rfl
theorem invalid_DD : Statement Instr.invalid_DD := of_bytes _ _ rfl rfl
theorem sbc_A_d8 (n : Byte) : Statement (Instr.sbc_A_d8 n) := of_bytes _ _ rfl rfl
theorem rst_18H : Statement Instr.rst_18H := of_bytes _ _ rfl rfl
theorem ldh_atA8_A (n : Byte) : Statement (Instr.ldh_atA8_A n) := of_bytes _ _ rfl rfl
theorem pop_HL : Statement Instr.pop_HL := of_bytes _ _ rfl rfl
theorem ld_atC_A : Statement Instr.ld_atC_A := of_bytes _ _ rfl rfl
theorem invalid_E3 : Statement Instr.invalid_E3 := of_bytes _ _ rfl rfl
theorem invalid_E4 : Statement Instr.invalid_E4 := of_bytes _ _ rfl rfl
theorem push_HL : Statement Instr.push_HL := of_bytes _ _ rfl rfl
theorem and_d8 (n : Byte) : Statement (Instr.and_d8 n) := of_bytes _ _ rfl rfl
theorem rst_20H : Statement Instr.rst_20H := of_bytes _ _ rfl rfl
theorem add_SP_r8 (e : Byte) : Statement (Instr.add_SP_r8 e) := of_bytes _ _ rfl rfl
theorem jp_HL : Statement Instr.jp_HL := of_bytes _ _ rfl rfl
theorem ld_atA16_A (addr : Word) : Statement (Instr.ld_atA16_A addr) := of_bytes _ _ rfl rfl
theorem invalid_EB : Statement Instr.invalid_EB := of_bytes _ _ rfl rfl
theorem invalid_EC : Statement Instr.invalid_EC := of_bytes _ _ rfl rfl
theorem invalid_ED : Statement Instr.invalid_ED := of_bytes _ _ rfl rfl
theorem xor_d8 (n : Byte) : Statement (Instr.xor_d8 n) := of_bytes _ _ rfl rfl
theorem rst_28H : Statement Instr.rst_28H := of_bytes _ _ rfl rfl
theorem ldh_A_atA8 (n : Byte) : Statement (Instr.ldh_A_atA8 n) := of_bytes _ _ rfl rfl
theorem pop_AF : Statement Instr.pop_AF := of_bytes _ _ rfl rfl
theorem ld_A_atC : Statement Instr.ld_A_atC := of_bytes _ _ rfl rfl
theorem di : Statement Instr.di := of_bytes _ _ rfl rfl
theorem invalid_F4 : Statement Instr.invalid_F4 := of_bytes _ _ rfl rfl
theorem push_AF : Statement Instr.push_AF := of_bytes _ _ rfl rfl
theorem or_d8 (n : Byte) : Statement (Instr.or_d8 n) := of_bytes _ _ rfl rfl
theorem rst_30H : Statement Instr.rst_30H := of_bytes _ _ rfl rfl
theorem ld_HL_SPr8 (e : Byte) : Statement (Instr.ld_HL_SPr8 e) := of_bytes _ _ rfl rfl
theorem ld_SP_HL : Statement Instr.ld_SP_HL := of_bytes _ _ rfl rfl
theorem ld_A_atA16 (addr : Word) : Statement (Instr.ld_A_atA16 addr) := of_bytes _ _ rfl rfl
theorem ei : Statement Instr.ei := of_bytes _ _ rfl rfl
theorem invalid_FC : Statement Instr.invalid_FC := of_bytes _ _ rfl rfl
theorem invalid_FD : Statement Instr.invalid_FD := of_bytes _ _ rfl rfl
theorem cp_d8 (n : Byte) : Statement (Instr.cp_d8 n) := of_bytes _ _ rfl rfl
theorem rst_38H : Statement Instr.rst_38H := of_bytes _ _ rfl rfl
theorem rlc_B : Statement Instr.rlc_B := of_bytes _ _ rfl rfl
theorem rlc_C : Statement Instr.rlc_C := of_bytes _ _ rfl rfl
theorem rlc_D : Statement Instr.rlc_D := of_bytes _ _ rfl rfl
theorem rlc_E : Statement Instr.rlc_E := of_bytes _ _ rfl rfl
theorem rlc_H : Statement Instr.rlc_H := of_bytes _ _ rfl rfl
theorem rlc_L : Statement Instr.rlc_L := of_bytes _ _ rfl rfl
theorem rlc_atHL : Statement Instr.rlc_atHL := of_bytes _ _ rfl rfl
theorem rlc_A : Statement Instr.rlc_A := of_bytes _ _ rfl rfl
theorem rrc_B : Statement Instr.rrc_B := of_bytes _ _ rfl rfl
theorem rrc_C : Statement Instr.rrc_C := of_bytes _ _ rfl rfl
theorem rrc_D : Statement Instr.rrc_D := of_bytes _ _ rfl rfl
theorem rrc_E : Statement Instr.rrc_E := of_bytes _ _ rfl rfl
theorem rrc_H : Statement Instr.rrc_H := of_bytes _ _ rfl rfl
theorem rrc_L : Statement Instr.rrc_L := of_bytes _ _ rfl rfl
theorem rrc_atHL : Statement Instr.rrc_atHL := of_bytes _ _ rfl rfl
theorem rrc_A : Statement Instr.rrc_A := of_bytes _ _ rfl rfl
theorem rl_B : Statement Instr.rl_B := of_bytes _ _ rfl rfl
theorem rl_C : Statement Instr.rl_C := of_bytes _ _ rfl rfl
theorem rl_D : Statement Instr.rl_D := of_bytes _ _ rfl rfl
theorem rl_E : Statement Instr.rl_E := of_bytes _ _ rfl rfl
theorem rl_H : Statement Instr.rl_H := of_bytes _ _ rfl rfl
theorem rl_L : Statement Instr.rl_L := of_bytes _ _ rfl rfl
theorem rl_atHL : Statement Instr.rl_atHL := of_bytes _ _ rfl rfl
theorem rl_A : Statement Instr.rl_A := of_bytes _ _ rfl rfl
theorem rr_B : Statement Instr.rr_B := of_bytes _ _ rfl rfl
theorem rr_C : Statement Instr.rr_C := of_bytes _ _ rfl rfl
theorem rr_D : Statement Instr.rr_D := of_bytes _ _ rfl rfl
theorem rr_E : Statement Instr.rr_E := of_bytes _ _ rfl rfl
theorem rr_H : Statement Instr.rr_H := of_bytes _ _ rfl rfl
theorem rr_L : Statement Instr.rr_L := of_bytes _ _ rfl rfl
theorem rr_atHL : Statement Instr.rr_atHL := of_bytes _ _ rfl rfl
theorem rr_A : Statement Instr.rr_A := of_bytes _ _ rfl rfl
theorem sla_B : Statement Instr.sla_B := of_bytes _ _ rfl rfl
theorem sla_C : Statement Instr.sla_C := of_bytes _ _ rfl rfl
theorem sla_D : Statement Instr.sla_D := of_bytes _ _ rfl rfl
theorem sla_E : Statement Instr.sla_E := of_bytes _ _ rfl rfl
theorem sla_H : Statement Instr.sla_H := of_bytes _ _ rfl rfl
theorem sla_L : Statement Instr.sla_L := of_bytes _ _ rfl rfl
theorem sla_atHL : Statement Instr.sla_atHL := of_bytes _ _ rfl rfl
theorem sla_A : Statement Instr.sla_A := of_bytes _ _ rfl rfl
theorem sra_B : Statement Instr.sra_B := of_bytes _ _ rfl rfl
theorem sra_C : Statement Instr.sra_C := of_bytes _ _ rfl rfl
theorem sra_D : Statement Instr.sra_D := of_bytes _ _ rfl rfl
theorem sra_E : Statement Instr.sra_E := of_bytes _ _ rfl rfl
theorem sra_H : Statement Instr.sra_H := of_bytes _ _ rfl rfl
theorem sra_L : Statement Instr.sra_L := of_bytes _ _ rfl rfl
theorem sra_atHL : Statement Instr.sra_atHL := of_bytes _ _ rfl rfl
theorem sra_A : Statement Instr.sra_A := of_bytes _ _ rfl rfl
theorem swap_B : Statement Instr.swap_B := of_bytes _ _ rfl rfl
theorem swap_C : Statement Instr.swap_C := of_bytes _ _ rfl rfl
theorem swap_D : Statement Instr.swap_D := of_bytes _ _ rfl rfl
theorem swap_E : Statement Instr.swap_E := of_bytes _ _ rfl rfl
theorem swap_H : Statement Instr.swap_H := of_bytes _ _ rfl rfl
theorem swap_L : Statement Instr.swap_L := of_bytes _ _ rfl rfl
theorem swap_atHL : Statement Instr.swap_atHL := of_bytes _ _ rfl rfl
theorem swap_A : Statement Instr.swap_A := of_bytes _ _ rfl rfl
theorem srl_B : Statement Instr.srl_B := of_bytes _ _ rfl rfl
theorem srl_C : Statement Instr.srl_C := of_bytes _ _ rfl rfl
theorem srl_D : Statement Instr.srl_D := of_bytes _ _ rfl rfl
theorem srl_E : Statement Instr.srl_E := of_bytes _ _ rfl rfl
theorem srl_H : Statement Instr.srl_H := of_bytes _ _ rfl rfl
theorem srl_L : Statement Instr.srl_L := of_bytes _ _ rfl rfl
theorem srl_atHL : Statement Instr.srl_atHL := of_bytes _ _ rfl rfl
theorem srl_A : Statement Instr.srl_A := of_bytes _ _ rfl rfl
theorem bit_0_B : Statement Instr.bit_0_B := of_bytes _ _ rfl rfl
theorem bit_0_C : Statement Instr.bit_0_C := of_bytes _ _ rfl rfl
theorem bit_0_D : Statement Instr.bit_0_D := of_bytes _ _ rfl rfl
theorem bit_0_E : Statement Instr.bit_0_E := of_bytes _ _ rfl rfl
theorem bit_0_H : Statement Instr.bit_0_H := of_bytes _ _ rfl rfl
theorem bit_0_L : Statement Instr.bit_0_L := of_bytes _ _ rfl rfl
theorem bit_0_atHL : Statement Instr.bit_0_atHL := of_bytes _ _ rfl rfl
theorem bit_0_A : Statement Instr.bit_0_A := of_bytes _ _ rfl rfl
theorem bit_1_B : Statement Instr.bit_1_B := of_bytes _ _ rfl rfl
theorem bit_1_C : Statement Instr.bit_1_C := of_bytes _ _ rfl rfl
theorem bit_1_D : Statement Instr.bit_1_D := of_bytes _ _ rfl rfl
theorem bit_1_E : Statement Instr.bit_1_E := of_bytes _ _ rfl rfl
theorem bit_1_H : Statement Instr.bit_1_H := of_bytes _ _ rfl rfl
theorem bit_1_L : Statement Instr.bit_1_L := of_bytes _ _ rfl rfl
theorem bit_1_atHL : Statement Instr.bit_1_atHL := of_bytes _ _ rfl rfl
theorem bit_1_A : Statement Instr.bit_1_A := of_bytes _ _ rfl rfl
theorem bit_2_B : Statement Instr.bit_2_B := of_bytes _ _ rfl rfl
theorem bit_2_C : Statement Instr.bit_2_C := of_bytes _ _ rfl rfl
theorem bit_2_D : Statement Instr.bit_2_D := of_bytes _ _ rfl rfl
theorem bit_2_E : Statement Instr.bit_2_E := of_bytes _ _ rfl rfl
theorem bit_2_H : Statement Instr.bit_2_H := of_bytes _ _ rfl rfl
theorem bit_2_L : Statement Instr.bit_2_L := of_bytes _ _ rfl rfl
theorem bit_2_atHL : Statement Instr.bit_2_atHL := of_bytes _ _ rfl rfl
theorem bit_2_A : Statement Instr.bit_2_A := of_bytes _ _ rfl rfl
theorem bit_3_B : Statement Instr.bit_3_B := of_bytes _ _ rfl rfl
theorem bit_3_C : Statement Instr.bit_3_C := of_bytes _ _ rfl rfl
theorem bit_3_D : Statement Instr.bit_3_D := of_bytes _ _ rfl rfl
theorem bit_3_E : Statement Instr.bit_3_E := of_bytes _ _ rfl rfl
theorem bit_3_H : Statement Instr.bit_3_H := of_bytes _ _ rfl rfl
theorem bit_3_L : Statement Instr.bit_3_L := of_bytes _ _ rfl rfl
theorem bit_3_atHL : Statement Instr.bit_3_atHL := of_bytes _ _ rfl rfl
theorem bit_3_A : Statement Instr.bit_3_A := of_bytes _ _ rfl rfl
theorem bit_4_B : Statement Instr.bit_4_B := of_bytes _ _ rfl rfl
theorem bit_4_C : Statement Instr.bit_4_C := of_bytes _ _ rfl rfl
theorem bit_4_D : Statement Instr.bit_4_D := of_bytes _ _ rfl rfl
theorem bit_4_E : Statement Instr.bit_4_E := of_bytes _ _ rfl rfl
theorem bit_4_H : Statement Instr.bit_4_H := of_bytes _ _ rfl rfl
theorem bit_4_L : Statement Instr.bit_4_L := of_bytes _ _ rfl rfl
theorem bit_4_atHL : Statement Instr.bit_4_atHL := of_bytes _ _ rfl rfl
theorem bit_4_A : Statement Instr.bit_4_A := of_bytes _ _ rfl rfl
theorem bit_5_B : Statement Instr.bit_5_B := of_bytes _ _ rfl rfl
theorem bit_5_C : Statement Instr.bit_5_C := of_bytes _ _ rfl rfl
theorem bit_5_D : Statement Instr.bit_5_D := of_bytes _ _ rfl rfl
theorem bit_5_E : Statement Instr.bit_5_E := of_bytes _ _ rfl rfl
theorem bit_5_H : Statement Instr.bit_5_H := of_bytes _ _ rfl rfl
theorem bit_5_L : Statement Instr.bit_5_L := of_bytes _ _ rfl rfl
theorem bit_5_atHL : Statement Instr.bit_5_atHL := of_bytes _ _ rfl rfl
theorem bit_5_A : Statement Instr.bit_5_A := of_bytes _ _ rfl rfl
theorem bit_6_B : Statement Instr.bit_6_B := of_bytes _ _ rfl rfl
theorem bit_6_C : Statement Instr.bit_6_C := of_bytes _ _ rfl rfl
theorem bit_6_D : Statement Instr.bit_6_D := of_bytes _ _ rfl rfl
theorem bit_6_E : Statement Instr.bit_6_E := of_bytes _ _ rfl rfl
theorem bit_6_H : Statement Instr.bit_6_H := of_bytes _ _ rfl rfl
theorem bit_6_L : Statement Instr.bit_6_L := of_bytes _ _ rfl rfl
theorem bit_6_atHL : Statement Instr.bit_6_atHL := of_bytes _ _ rfl rfl
theorem bit_6_A : Statement Instr.bit_6_A := of_bytes _ _ rfl rfl
theorem bit_7_B : Statement Instr.bit_7_B := of_bytes _ _ rfl rfl
theorem bit_7_C : Statement Instr.bit_7_C := of_bytes _ _ rfl rfl
theorem bit_7_D : Statement Instr.bit_7_D := of_bytes _ _ rfl rfl
theorem bit_7_E : Statement Instr.bit_7_E := of_bytes _ _ rfl rfl
theorem bit_7_H : Statement Instr.bit_7_H := of_bytes _ _ rfl rfl
theorem bit_7_L : Statement Instr.bit_7_L := of_bytes _ _ rfl rfl
theorem bit_7_atHL : Statement Instr.bit_7_atHL := of_bytes _ _ rfl rfl
theorem bit_7_A : Statement Instr.bit_7_A := of_bytes _ _ rfl rfl
theorem res_0_B : Statement Instr.res_0_B := of_bytes _ _ rfl rfl
theorem res_0_C : Statement Instr.res_0_C := of_bytes _ _ rfl rfl
theorem res_0_D : Statement Instr.res_0_D := of_bytes _ _ rfl rfl
theorem res_0_E : Statement Instr.res_0_E := of_bytes _ _ rfl rfl
theorem res_0_H : Statement Instr.res_0_H := of_bytes _ _ rfl rfl
theorem res_0_L : Statement Instr.res_0_L := of_bytes _ _ rfl rfl
theorem res_0_atHL : Statement Instr.res_0_atHL := of_bytes _ _ rfl rfl
theorem res_0_A : Statement Instr.res_0_A := of_bytes _ _ rfl rfl
theorem res_1_B : Statement Instr.res_1_B := of_bytes _ _ rfl rfl
theorem res_1_C : Statement Instr.res_1_C := of_bytes _ _ rfl rfl
theorem res_1_D : Statement Instr.res_1_D := of_bytes _ _ rfl rfl
theorem res_1_E : Statement Instr.res_1_E := of_bytes _ _ rfl rfl
theorem res_1_H : Statement Instr.res_1_H := of_bytes _ _ rfl rfl
theorem res_1_L : Statement Instr.res_1_L := of_bytes _ _ rfl rfl
theorem res_1_atHL : Statement Instr.res_1_atHL := of_bytes _ _ rfl rfl
theorem res_1_A : Statement Instr.res_1_A := of_bytes _ _ rfl rfl
theorem res_2_B : Statement Instr.res_2_B := of_bytes _ _ rfl rfl
theorem res_2_C : Statement Instr.res_2_C := of_bytes _ _ rfl rfl
theorem res_2_D : Statement Instr.res_2_D := of_bytes _ _ rfl rfl
theorem res_2_E : Statement Instr.res_2_E := of_bytes _ _ rfl rfl
theorem res_2_H : Statement Instr.res_2_H := of_bytes _ _ rfl rfl
theorem res_2_L : Statement Instr.res_2_L := of_bytes _ _ rfl rfl
theorem res_2_atHL : Statement Instr.res_2_atHL := of_bytes _ _ rfl rfl
theorem res_2_A : Statement Instr.res_2_A := of_bytes _ _ rfl rfl
theorem res_3_B : Statement Instr.res_3_B := of_bytes _ _ rfl rfl
theorem res_3_C : Statement Instr.res_3_C := of_bytes _ _ rfl rfl
theorem res_3_D : Statement Instr.res_3_D := of_bytes _ _ rfl rfl
theorem res_3_E : Statement Instr.res_3_E := of_bytes _ _ rfl rfl
theorem res_3_H : Statement Instr.res_3_H := of_bytes _ _ rfl rfl
theorem res_3_L : Statement Instr.res_3_L := of_bytes _ _ rfl rfl
theorem res_3_atHL : Statement Instr.res_3_atHL := of_bytes _ _ rfl rfl
theorem res_3_A : Statement Instr.res_3_A := of_bytes _ _ rfl rfl
theorem res_4_B : Statement Instr.res_4_B := of_bytes _ _ rfl rfl
theorem res_4_C : Statement Instr.res_4_C := of_bytes _ _ rfl rfl
theorem res_4_D : Statement Instr.res_4_D := of_bytes _ _ rfl rfl
theorem res_4_E : Statement Instr.res_4_E := of_bytes _ _ rfl rfl
theorem res_4_H : Statement Instr.res_4_H := of_bytes _ _ rfl rfl
theorem res_4_L : Statement Instr.res_4_L := of_bytes _ _ rfl rfl
theorem res_4_atHL : Statement Instr.res_4_atHL := of_bytes _ _ rfl rfl
theorem res_4_A : Statement Instr.res_4_A := of_bytes _ _ rfl rfl
theorem res_5_B : Statement Instr.res_5_B := of_bytes _ _ rfl rfl
theorem res_5_C : Statement Instr.res_5_C := of_bytes _ _ rfl rfl
theorem res_5_D : Statement Instr.res_5_D := of_bytes _ _ rfl rfl
theorem res_5_E : Statement Instr.res_5_E := of_bytes _ _ rfl rfl
theorem res_5_H : Statement Instr.res_5_H := of_bytes _ _ rfl rfl
theorem res_5_L : Statement Instr.res_5_L := of_bytes _ _ rfl rfl
theorem res_5_atHL : Statement Instr.res_5_atHL := of_bytes _ _ rfl rfl
theorem res_5_A : Statement Instr.res_5_A := of_bytes _ _ rfl rfl
theorem res_6_B : Statement Instr.res_6_B := of_bytes _ _ rfl rfl
theorem res_6_C : Statement Instr.res_6_C := of_bytes _ _ rfl rfl
theorem res_6_D : Statement Instr.res_6_D := of_bytes _ _ rfl rfl
theorem res_6_E : Statement Instr.res_6_E := of_bytes _ _ rfl rfl
theorem res_6_H : Statement Instr.res_6_H := of_bytes _ _ rfl rfl
theorem res_6_L : Statement Instr.res_6_L := of_bytes _ _ rfl rfl
theorem res_6_atHL : Statement Instr.res_6_atHL := of_bytes _ _ rfl rfl
theorem res_6_A : Statement Instr.res_6_A := of_bytes _ _ rfl rfl
theorem res_7_B : Statement Instr.res_7_B := of_bytes _ _ rfl rfl
theorem res_7_C : Statement Instr.res_7_C := of_bytes _ _ rfl rfl
theorem res_7_D : Statement Instr.res_7_D := of_bytes _ _ rfl rfl
theorem res_7_E : Statement Instr.res_7_E := of_bytes _ _ rfl rfl
theorem res_7_H : Statement Instr.res_7_H := of_bytes _ _ rfl rfl
theorem res_7_L : Statement Instr.res_7_L := of_bytes _ _ rfl rfl
theorem res_7_atHL : Statement Instr.res_7_atHL := of_bytes _ _ rfl rfl
theorem res_7_A : Statement Instr.res_7_A := of_bytes _ _ rfl rfl
theorem set_0_B : Statement Instr.set_0_B := of_bytes _ _ rfl rfl
theorem set_0_C : Statement Instr.set_0_C := of_bytes _ _ rfl rfl
theorem set_0_D : Statement Instr.set_0_D := of_bytes _ _ rfl rfl
theorem set_0_E : Statement Instr.set_0_E := of_bytes _ _ rfl rfl
theorem set_0_H : Statement Instr.set_0_H := of_bytes _ _ rfl rfl
theorem set_0_L : Statement Instr.set_0_L := of_bytes _ _ rfl rfl
theorem set_0_atHL : Statement Instr.set_0_atHL := of_bytes _ _ rfl rfl
theorem set_0_A : Statement Instr.set_0_A := of_bytes _ _ rfl rfl
theorem set_1_B : Statement Instr.set_1_B := of_bytes _ _ rfl rfl
theorem set_1_C : Statement Instr.set_1_C := of_bytes _ _ rfl rfl
theorem set_1_D : Statement Instr.set_1_D := of_bytes _ _ rfl rfl
theorem set_1_E : Statement Instr.set_1_E := of_bytes _ _ rfl rfl
theorem set_1_H : Statement Instr.set_1_H := of_bytes _ _ rfl rfl
theorem set_1_L : Statement Instr.set_1_L := of_bytes _ _ rfl rfl
theorem set_1_atHL : Statement Instr.set_1_atHL := of_bytes _ _ rfl rfl
theorem set_1_A : Statement Instr.set_1_A := of_bytes _ _ rfl rfl
theorem set_2_B : Statement Instr.set_2_B := of_bytes _ _ rfl rfl
theorem set_2_C : Statement Instr.set_2_C := of_bytes _ _ rfl rfl
theorem set_2_D : Statement Instr.set_2_D := of_bytes _ _ rfl rfl
theorem set_2_E : Statement Instr.set_2_E := of_bytes _ _ rfl rfl
theorem set_2_H : Statement Instr.set_2_H := of_bytes _ _ rfl rfl
theorem set_2_L : Statement Instr.set_2_L := of_bytes _ _ rfl rfl
theorem set_2_atHL : Statement Instr.set_2_atHL := of_bytes _ _ rfl rfl
theorem set_2_A : Statement Instr.set_2_A := of_bytes _ _ rfl rfl
theorem set_3_B : Statement Instr.set_3_B := of_bytes _ _ rfl rfl
theorem set_3_C : Statement Instr.set_3_C := of_bytes _ _ rfl rfl
theorem set_3_D : Statement Instr.set_3_D := of_bytes _ _ rfl rfl
theorem set_3_E : Statement Instr.set_3_E := of_bytes _ _ rfl rfl
theorem set_3_H : Statement Instr.set_3_H := of_bytes _ _ rfl rfl
theorem set_3_L : Statement Instr.set_3_L := of_bytes _ _ rfl rfl
theorem set_3_atHL : Statement Instr.set_3_atHL := of_bytes _ _ rfl rfl
theorem set_3_A : Statement Instr.set_3_A := of_bytes _ _ rfl rfl
theorem set_4_B : Statement Instr.set_4_B := of_bytes _ _ rfl rfl
theorem set_4_C : Statement Instr.set_4_C := of_bytes _ _ rfl rfl
theorem set_4_D : Statement Instr.set_4_D := of_bytes _ _ rfl rfl
theorem set_4_E : Statement Instr.set_4_E := of_bytes _ _ rfl rfl
theorem set_4_H : Statement Instr.set_4_H := of_bytes _ _ rfl rfl
theorem set_4_L : Statement Instr.set_4_L := of_bytes _ _ rfl rfl
theorem set_4_atHL : Statement Instr.set_4_atHL := of_bytes _ _ rfl rfl
theorem set_4_A : Statement Instr.set_4_A := of_bytes _ _ rfl rfl
theorem set_5_B : Statement Instr.set_5_B := of_bytes _ _ rfl rfl
theorem set_5_C : Statement Instr.set_5_C := of_bytes _ _ rfl rfl
theorem set_5_D : Statement Instr.set_5_D := of_bytes _ _ rfl rfl
theorem set_5_E : Statement Instr.set_5_E := of_bytes _ _ rfl rfl
theorem set_5_H : Statement Instr.set_5_H := of_bytes _ _ rfl rfl
theorem set_5_L : Statement Instr.set_5_L := of_bytes _ _ rfl rfl
theorem set_5_atHL : Statement Instr.set_5_atHL := of_bytes _ _ rfl rfl
theorem set_5_A : Statement Instr.set_5_A := of_bytes _ _ rfl rfl
theorem set_6_B : Statement Instr.set_6_B := of_bytes _ _ rfl rfl
theorem set_6_C : Statement Instr.set_6_C := of_bytes _ _ rfl rfl
theorem set_6_D : Statement Instr.set_6_D := of_bytes _ _ rfl rfl
theorem set_6_E : Statement Instr.set_6_E := of_bytes _ _ rfl rfl
theorem set_6_H : Statement Instr.set_6_H := of_bytes _ _ rfl rfl
theorem set_6_L : Statement Instr.set_6_L := of_bytes _ _ rfl rfl
theorem set_6_atHL : Statement Instr.set_6_atHL := of_bytes _ _ rfl rfl
theorem set_6_A : Statement Instr.set_6_A := of_bytes _ _ rfl rfl
theorem set_7_B : Statement Instr.set_7_B := of_bytes _ _ rfl rfl
theorem set_7_C : Statement Instr.set_7_C := of_bytes _ _ rfl rfl
theorem set_7_D : Statement Instr.set_7_D := of_bytes _ _ rfl rfl
theorem set_7_E : Statement Instr.set_7_E := of_bytes _ _ rfl rfl
theorem set_7_H : Statement Instr.set_7_H := of_bytes _ _ rfl rfl
theorem set_7_L : Statement Instr.set_7_L := of_bytes _ _ rfl rfl
theorem set_7_atHL : Statement Instr.set_7_atHL := of_bytes _ _ rfl rfl
theorem set_7_A : Statement Instr.set_7_A := of_bytes _ _ rfl rfl

end Sys2Proof.Laws.EncodingLength
end

