-- ==== Sys2Proof/Tests/Slice0.lean ====
section
/-! SUPPORT. The model's own tests: the check of well-formedness, every row's word decoded, single steps whose expected values are
the spec's (95_test_vectors.md V1 to V82, and the examples of the rules of files 41 to 47), and for every statement with
hypotheses a state and operands that meet all of them. -/

namespace Sys2Proof.Tests

open Sys2Proof Sys2Proof.Machine Sys2Proof.Statements

/-- A memory from its cells. -/
def memOf (cells : List Host.Cell) : Memory := cells.foldl (fun m c => m.write c.1 c.2) []

/-- Bytes at consecutive addresses, modulo 2^16. -/
def cellsAt (pc : Word) : List Byte → List Host.Cell
  | [] => []
  | v :: rest => (pc.toNat, v) :: cellsAt (pc + 1#16) rest

/-- The start-state convention of 95_test_vectors.md section 3: the reset values with F = 0, the bytes at pc, and cells. -/
def start (pc : Word) (bytes : List Byte) (cells : List Host.Cell := []) : State :=
  { State.reset with f := 0x00#8, pc := pc, mem := memOf (cellsAt pc bytes ++ cells) }

/-- Does one step answer a next state that the check accepts? -/
def after (s : State) (check : State → Bool) : Bool :=
  match step s with
  | .next t => check t
  | .fault _ => false
  | .refused _ => false

/-- The byte that a state's memory holds. -/
def cell (t : State) (a : Nat) : Byte := t.mem.get a

/-! ### Well-formedness -/

/-- Refused: the bare prefix is no instruction of its own (R295). It is the one check there is. -/
theorem test_wellFormed_refuses_the_bare_prefix : Instr.prefix_CB.wellFormed = false := by decide

/-- Accepted: an instruction of each length, and an unassigned opcode. -/
theorem test_wellFormed_accepts_instructions :
    [Instr.nop, .ld_A_d8 0xFF#8, .jp_a16 0xFFFF#16, .swap_A, .invalid_D3].all Instr.wellFormed = true := by decide

/-! ### Decoding: the word of every row, written out from the `encoding` of spec/opcode_table.json, with operand bytes n and
nn as the table places them (low byte first) -/

/-- Primary opcodes 0x00 to 0x0F. -/
theorem test_decode_primary_0 :
    [ decode [0b00000000#8],
      decode [0b00000001#8, 0x34#8, 0x12#8],
      decode [0b00000010#8],
      decode [0b00000011#8],
      decode [0b00000100#8],
      decode [0b00000101#8],
      decode [0b00000110#8, 0x9A#8],
      decode [0b00000111#8],
      decode [0b00001000#8, 0x34#8, 0x12#8],
      decode [0b00001001#8],
      decode [0b00001010#8],
      decode [0b00001011#8],
      decode [0b00001100#8],
      decode [0b00001101#8],
      decode [0b00001110#8, 0x9A#8],
      decode [0b00001111#8] ] =
    [ .ok .nop [],
      .ok (.ld_BC_d16 0x1234#16) [],
      .ok .ld_atBC_A [],
      .ok .inc_BC [],
      .ok .inc_B [],
      .ok .dec_B [],
      .ok (.ld_B_d8 0x9A#8) [],
      .ok .rlca [],
      .ok (.ld_atA16_SP 0x1234#16) [],
      .ok .add_HL_BC [],
      .ok .ld_A_atBC [],
      .ok .dec_BC [],
      .ok .inc_C [],
      .ok .dec_C [],
      .ok (.ld_C_d8 0x9A#8) [],
      .ok .rrca [] ] := by rfl

/-- Primary opcodes 0x10 to 0x1F. -/
theorem test_decode_primary_1 :
    [ decode [0b00010000#8, 0x9A#8],
      decode [0b00010001#8, 0x34#8, 0x12#8],
      decode [0b00010010#8],
      decode [0b00010011#8],
      decode [0b00010100#8],
      decode [0b00010101#8],
      decode [0b00010110#8, 0x9A#8],
      decode [0b00010111#8],
      decode [0b00011000#8, 0x9A#8],
      decode [0b00011001#8],
      decode [0b00011010#8],
      decode [0b00011011#8],
      decode [0b00011100#8],
      decode [0b00011101#8],
      decode [0b00011110#8, 0x9A#8],
      decode [0b00011111#8] ] =
    [ .ok (.stop 0x9A#8) [],
      .ok (.ld_DE_d16 0x1234#16) [],
      .ok .ld_atDE_A [],
      .ok .inc_DE [],
      .ok .inc_D [],
      .ok .dec_D [],
      .ok (.ld_D_d8 0x9A#8) [],
      .ok .rla [],
      .ok (.jr_r8 0x9A#8) [],
      .ok .add_HL_DE [],
      .ok .ld_A_atDE [],
      .ok .dec_DE [],
      .ok .inc_E [],
      .ok .dec_E [],
      .ok (.ld_E_d8 0x9A#8) [],
      .ok .rra [] ] := by rfl

/-- Primary opcodes 0x20 to 0x2F. -/
theorem test_decode_primary_2 :
    [ decode [0b00100000#8, 0x9A#8],
      decode [0b00100001#8, 0x34#8, 0x12#8],
      decode [0b00100010#8],
      decode [0b00100011#8],
      decode [0b00100100#8],
      decode [0b00100101#8],
      decode [0b00100110#8, 0x9A#8],
      decode [0b00100111#8],
      decode [0b00101000#8, 0x9A#8],
      decode [0b00101001#8],
      decode [0b00101010#8],
      decode [0b00101011#8],
      decode [0b00101100#8],
      decode [0b00101101#8],
      decode [0b00101110#8, 0x9A#8],
      decode [0b00101111#8] ] =
    [ .ok (.jr_NZ_r8 0x9A#8) [],
      .ok (.ld_HL_d16 0x1234#16) [],
      .ok .ld_atHLinc_A [],
      .ok .inc_HL [],
      .ok .inc_H [],
      .ok .dec_H [],
      .ok (.ld_H_d8 0x9A#8) [],
      .ok .daa [],
      .ok (.jr_Z_r8 0x9A#8) [],
      .ok .add_HL_HL [],
      .ok .ld_A_atHLinc [],
      .ok .dec_HL [],
      .ok .inc_L [],
      .ok .dec_L [],
      .ok (.ld_L_d8 0x9A#8) [],
      .ok .cpl [] ] := by rfl

/-- Primary opcodes 0x30 to 0x3F. -/
theorem test_decode_primary_3 :
    [ decode [0b00110000#8, 0x9A#8],
      decode [0b00110001#8, 0x34#8, 0x12#8],
      decode [0b00110010#8],
      decode [0b00110011#8],
      decode [0b00110100#8],
      decode [0b00110101#8],
      decode [0b00110110#8, 0x9A#8],
      decode [0b00110111#8],
      decode [0b00111000#8, 0x9A#8],
      decode [0b00111001#8],
      decode [0b00111010#8],
      decode [0b00111011#8],
      decode [0b00111100#8],
      decode [0b00111101#8],
      decode [0b00111110#8, 0x9A#8],
      decode [0b00111111#8] ] =
    [ .ok (.jr_NC_r8 0x9A#8) [],
      .ok (.ld_SP_d16 0x1234#16) [],
      .ok .ld_atHLdec_A [],
      .ok .inc_SP [],
      .ok .inc_atHL [],
      .ok .dec_atHL [],
      .ok (.ld_atHL_d8 0x9A#8) [],
      .ok .scf [],
      .ok (.jr_C_r8 0x9A#8) [],
      .ok .add_HL_SP [],
      .ok .ld_A_atHLdec [],
      .ok .dec_SP [],
      .ok .inc_A [],
      .ok .dec_A [],
      .ok (.ld_A_d8 0x9A#8) [],
      .ok .ccf [] ] := by rfl

/-- Primary opcodes 0x40 to 0x4F. -/
theorem test_decode_primary_4 :
    [ decode [0b01000000#8],
      decode [0b01000001#8],
      decode [0b01000010#8],
      decode [0b01000011#8],
      decode [0b01000100#8],
      decode [0b01000101#8],
      decode [0b01000110#8],
      decode [0b01000111#8],
      decode [0b01001000#8],
      decode [0b01001001#8],
      decode [0b01001010#8],
      decode [0b01001011#8],
      decode [0b01001100#8],
      decode [0b01001101#8],
      decode [0b01001110#8],
      decode [0b01001111#8] ] =
    [ .ok .ld_B_B [],
      .ok .ld_B_C [],
      .ok .ld_B_D [],
      .ok .ld_B_E [],
      .ok .ld_B_H [],
      .ok .ld_B_L [],
      .ok .ld_B_atHL [],
      .ok .ld_B_A [],
      .ok .ld_C_B [],
      .ok .ld_C_C [],
      .ok .ld_C_D [],
      .ok .ld_C_E [],
      .ok .ld_C_H [],
      .ok .ld_C_L [],
      .ok .ld_C_atHL [],
      .ok .ld_C_A [] ] := by rfl

/-- Primary opcodes 0x50 to 0x5F. -/
theorem test_decode_primary_5 :
    [ decode [0b01010000#8],
      decode [0b01010001#8],
      decode [0b01010010#8],
      decode [0b01010011#8],
      decode [0b01010100#8],
      decode [0b01010101#8],
      decode [0b01010110#8],
      decode [0b01010111#8],
      decode [0b01011000#8],
      decode [0b01011001#8],
      decode [0b01011010#8],
      decode [0b01011011#8],
      decode [0b01011100#8],
      decode [0b01011101#8],
      decode [0b01011110#8],
      decode [0b01011111#8] ] =
    [ .ok .ld_D_B [],
      .ok .ld_D_C [],
      .ok .ld_D_D [],
      .ok .ld_D_E [],
      .ok .ld_D_H [],
      .ok .ld_D_L [],
      .ok .ld_D_atHL [],
      .ok .ld_D_A [],
      .ok .ld_E_B [],
      .ok .ld_E_C [],
      .ok .ld_E_D [],
      .ok .ld_E_E [],
      .ok .ld_E_H [],
      .ok .ld_E_L [],
      .ok .ld_E_atHL [],
      .ok .ld_E_A [] ] := by rfl

/-- Primary opcodes 0x60 to 0x6F. -/
theorem test_decode_primary_6 :
    [ decode [0b01100000#8],
      decode [0b01100001#8],
      decode [0b01100010#8],
      decode [0b01100011#8],
      decode [0b01100100#8],
      decode [0b01100101#8],
      decode [0b01100110#8],
      decode [0b01100111#8],
      decode [0b01101000#8],
      decode [0b01101001#8],
      decode [0b01101010#8],
      decode [0b01101011#8],
      decode [0b01101100#8],
      decode [0b01101101#8],
      decode [0b01101110#8],
      decode [0b01101111#8] ] =
    [ .ok .ld_H_B [],
      .ok .ld_H_C [],
      .ok .ld_H_D [],
      .ok .ld_H_E [],
      .ok .ld_H_H [],
      .ok .ld_H_L [],
      .ok .ld_H_atHL [],
      .ok .ld_H_A [],
      .ok .ld_L_B [],
      .ok .ld_L_C [],
      .ok .ld_L_D [],
      .ok .ld_L_E [],
      .ok .ld_L_H [],
      .ok .ld_L_L [],
      .ok .ld_L_atHL [],
      .ok .ld_L_A [] ] := by rfl

/-- Primary opcodes 0x70 to 0x7F. -/
theorem test_decode_primary_7 :
    [ decode [0b01110000#8],
      decode [0b01110001#8],
      decode [0b01110010#8],
      decode [0b01110011#8],
      decode [0b01110100#8],
      decode [0b01110101#8],
      decode [0b01110110#8],
      decode [0b01110111#8],
      decode [0b01111000#8],
      decode [0b01111001#8],
      decode [0b01111010#8],
      decode [0b01111011#8],
      decode [0b01111100#8],
      decode [0b01111101#8],
      decode [0b01111110#8],
      decode [0b01111111#8] ] =
    [ .ok .ld_atHL_B [],
      .ok .ld_atHL_C [],
      .ok .ld_atHL_D [],
      .ok .ld_atHL_E [],
      .ok .ld_atHL_H [],
      .ok .ld_atHL_L [],
      .ok .halt [],
      .ok .ld_atHL_A [],
      .ok .ld_A_B [],
      .ok .ld_A_C [],
      .ok .ld_A_D [],
      .ok .ld_A_E [],
      .ok .ld_A_H [],
      .ok .ld_A_L [],
      .ok .ld_A_atHL [],
      .ok .ld_A_A [] ] := by rfl

/-- Primary opcodes 0x80 to 0x8F. -/
theorem test_decode_primary_8 :
    [ decode [0b10000000#8],
      decode [0b10000001#8],
      decode [0b10000010#8],
      decode [0b10000011#8],
      decode [0b10000100#8],
      decode [0b10000101#8],
      decode [0b10000110#8],
      decode [0b10000111#8],
      decode [0b10001000#8],
      decode [0b10001001#8],
      decode [0b10001010#8],
      decode [0b10001011#8],
      decode [0b10001100#8],
      decode [0b10001101#8],
      decode [0b10001110#8],
      decode [0b10001111#8] ] =
    [ .ok .add_A_B [],
      .ok .add_A_C [],
      .ok .add_A_D [],
      .ok .add_A_E [],
      .ok .add_A_H [],
      .ok .add_A_L [],
      .ok .add_A_atHL [],
      .ok .add_A_A [],
      .ok .adc_A_B [],
      .ok .adc_A_C [],
      .ok .adc_A_D [],
      .ok .adc_A_E [],
      .ok .adc_A_H [],
      .ok .adc_A_L [],
      .ok .adc_A_atHL [],
      .ok .adc_A_A [] ] := by rfl

/-- Primary opcodes 0x90 to 0x9F. -/
theorem test_decode_primary_9 :
    [ decode [0b10010000#8],
      decode [0b10010001#8],
      decode [0b10010010#8],
      decode [0b10010011#8],
      decode [0b10010100#8],
      decode [0b10010101#8],
      decode [0b10010110#8],
      decode [0b10010111#8],
      decode [0b10011000#8],
      decode [0b10011001#8],
      decode [0b10011010#8],
      decode [0b10011011#8],
      decode [0b10011100#8],
      decode [0b10011101#8],
      decode [0b10011110#8],
      decode [0b10011111#8] ] =
    [ .ok .sub_B [],
      .ok .sub_C [],
      .ok .sub_D [],
      .ok .sub_E [],
      .ok .sub_H [],
      .ok .sub_L [],
      .ok .sub_atHL [],
      .ok .sub_A [],
      .ok .sbc_A_B [],
      .ok .sbc_A_C [],
      .ok .sbc_A_D [],
      .ok .sbc_A_E [],
      .ok .sbc_A_H [],
      .ok .sbc_A_L [],
      .ok .sbc_A_atHL [],
      .ok .sbc_A_A [] ] := by rfl

/-- Primary opcodes 0xA0 to 0xAF. -/
theorem test_decode_primary_A :
    [ decode [0b10100000#8],
      decode [0b10100001#8],
      decode [0b10100010#8],
      decode [0b10100011#8],
      decode [0b10100100#8],
      decode [0b10100101#8],
      decode [0b10100110#8],
      decode [0b10100111#8],
      decode [0b10101000#8],
      decode [0b10101001#8],
      decode [0b10101010#8],
      decode [0b10101011#8],
      decode [0b10101100#8],
      decode [0b10101101#8],
      decode [0b10101110#8],
      decode [0b10101111#8] ] =
    [ .ok .and_B [],
      .ok .and_C [],
      .ok .and_D [],
      .ok .and_E [],
      .ok .and_H [],
      .ok .and_L [],
      .ok .and_atHL [],
      .ok .and_A [],
      .ok .xor_B [],
      .ok .xor_C [],
      .ok .xor_D [],
      .ok .xor_E [],
      .ok .xor_H [],
      .ok .xor_L [],
      .ok .xor_atHL [],
      .ok .xor_A [] ] := by rfl

/-- Primary opcodes 0xB0 to 0xBF. -/
theorem test_decode_primary_B :
    [ decode [0b10110000#8],
      decode [0b10110001#8],
      decode [0b10110010#8],
      decode [0b10110011#8],
      decode [0b10110100#8],
      decode [0b10110101#8],
      decode [0b10110110#8],
      decode [0b10110111#8],
      decode [0b10111000#8],
      decode [0b10111001#8],
      decode [0b10111010#8],
      decode [0b10111011#8],
      decode [0b10111100#8],
      decode [0b10111101#8],
      decode [0b10111110#8],
      decode [0b10111111#8] ] =
    [ .ok .or_B [],
      .ok .or_C [],
      .ok .or_D [],
      .ok .or_E [],
      .ok .or_H [],
      .ok .or_L [],
      .ok .or_atHL [],
      .ok .or_A [],
      .ok .cp_B [],
      .ok .cp_C [],
      .ok .cp_D [],
      .ok .cp_E [],
      .ok .cp_H [],
      .ok .cp_L [],
      .ok .cp_atHL [],
      .ok .cp_A [] ] := by rfl

/-- Primary opcodes 0xC0 to 0xCF. -/
theorem test_decode_primary_C :
    [ decode [0b11000000#8],
      decode [0b11000001#8],
      decode [0b11000010#8, 0x34#8, 0x12#8],
      decode [0b11000011#8, 0x34#8, 0x12#8],
      decode [0b11000100#8, 0x34#8, 0x12#8],
      decode [0b11000101#8],
      decode [0b11000110#8, 0x9A#8],
      decode [0b11000111#8],
      decode [0b11001000#8],
      decode [0b11001001#8],
      decode [0b11001010#8, 0x34#8, 0x12#8],
      decode [0b11001100#8, 0x34#8, 0x12#8],
      decode [0b11001101#8, 0x34#8, 0x12#8],
      decode [0b11001110#8, 0x9A#8],
      decode [0b11001111#8] ] =
    [ .ok .ret_NZ [],
      .ok .pop_BC [],
      .ok (.jp_NZ_a16 0x1234#16) [],
      .ok (.jp_a16 0x1234#16) [],
      .ok (.call_NZ_a16 0x1234#16) [],
      .ok .push_BC [],
      .ok (.add_A_d8 0x9A#8) [],
      .ok .rst_00H [],
      .ok .ret_Z [],
      .ok .ret [],
      .ok (.jp_Z_a16 0x1234#16) [],
      .ok (.call_Z_a16 0x1234#16) [],
      .ok (.call_a16 0x1234#16) [],
      .ok (.adc_A_d8 0x9A#8) [],
      .ok .rst_08H [] ] := by rfl

/-- Primary opcodes 0xD0 to 0xDF. -/
theorem test_decode_primary_D :
    [ decode [0b11010000#8],
      decode [0b11010001#8],
      decode [0b11010010#8, 0x34#8, 0x12#8],
      decode [0b11010011#8],
      decode [0b11010100#8, 0x34#8, 0x12#8],
      decode [0b11010101#8],
      decode [0b11010110#8, 0x9A#8],
      decode [0b11010111#8],
      decode [0b11011000#8],
      decode [0b11011001#8],
      decode [0b11011010#8, 0x34#8, 0x12#8],
      decode [0b11011011#8],
      decode [0b11011100#8, 0x34#8, 0x12#8],
      decode [0b11011101#8],
      decode [0b11011110#8, 0x9A#8],
      decode [0b11011111#8] ] =
    [ .ok .ret_NC [],
      .ok .pop_DE [],
      .ok (.jp_NC_a16 0x1234#16) [],
      .ok .invalid_D3 [],
      .ok (.call_NC_a16 0x1234#16) [],
      .ok .push_DE [],
      .ok (.sub_d8 0x9A#8) [],
      .ok .rst_10H [],
      .ok .ret_C [],
      .ok .reti [],
      .ok (.jp_C_a16 0x1234#16) [],
      .ok .invalid_DB [],
      .ok (.call_C_a16 0x1234#16) [],
      .ok .invalid_DD [],
      .ok (.sbc_A_d8 0x9A#8) [],
      .ok .rst_18H [] ] := by rfl

/-- Primary opcodes 0xE0 to 0xEF. -/
theorem test_decode_primary_E :
    [ decode [0b11100000#8, 0x9A#8],
      decode [0b11100001#8],
      decode [0b11100010#8],
      decode [0b11100011#8],
      decode [0b11100100#8],
      decode [0b11100101#8],
      decode [0b11100110#8, 0x9A#8],
      decode [0b11100111#8],
      decode [0b11101000#8, 0x9A#8],
      decode [0b11101001#8],
      decode [0b11101010#8, 0x34#8, 0x12#8],
      decode [0b11101011#8],
      decode [0b11101100#8],
      decode [0b11101101#8],
      decode [0b11101110#8, 0x9A#8],
      decode [0b11101111#8] ] =
    [ .ok (.ldh_atA8_A 0x9A#8) [],
      .ok .pop_HL [],
      .ok .ld_atC_A [],
      .ok .invalid_E3 [],
      .ok .invalid_E4 [],
      .ok .push_HL [],
      .ok (.and_d8 0x9A#8) [],
      .ok .rst_20H [],
      .ok (.add_SP_r8 0x9A#8) [],
      .ok .jp_HL [],
      .ok (.ld_atA16_A 0x1234#16) [],
      .ok .invalid_EB [],
      .ok .invalid_EC [],
      .ok .invalid_ED [],
      .ok (.xor_d8 0x9A#8) [],
      .ok .rst_28H [] ] := by rfl

/-- Primary opcodes 0xF0 to 0xFF. -/
theorem test_decode_primary_F :
    [ decode [0b11110000#8, 0x9A#8],
      decode [0b11110001#8],
      decode [0b11110010#8],
      decode [0b11110011#8],
      decode [0b11110100#8],
      decode [0b11110101#8],
      decode [0b11110110#8, 0x9A#8],
      decode [0b11110111#8],
      decode [0b11111000#8, 0x9A#8],
      decode [0b11111001#8],
      decode [0b11111010#8, 0x34#8, 0x12#8],
      decode [0b11111011#8],
      decode [0b11111100#8],
      decode [0b11111101#8],
      decode [0b11111110#8, 0x9A#8],
      decode [0b11111111#8] ] =
    [ .ok (.ldh_A_atA8 0x9A#8) [],
      .ok .pop_AF [],
      .ok .ld_A_atC [],
      .ok .di [],
      .ok .invalid_F4 [],
      .ok .push_AF [],
      .ok (.or_d8 0x9A#8) [],
      .ok .rst_30H [],
      .ok (.ld_HL_SPr8 0x9A#8) [],
      .ok .ld_SP_HL [],
      .ok (.ld_A_atA16 0x1234#16) [],
      .ok .ei [],
      .ok .invalid_FC [],
      .ok .invalid_FD [],
      .ok (.cp_d8 0x9A#8) [],
      .ok .rst_38H [] ] := by rfl

/-- CB entries 0x00 to 0x0F. -/
theorem test_decode_cb_0 :
    [ decode [0b11001011#8, 0b00000000#8],
      decode [0b11001011#8, 0b00000001#8],
      decode [0b11001011#8, 0b00000010#8],
      decode [0b11001011#8, 0b00000011#8],
      decode [0b11001011#8, 0b00000100#8],
      decode [0b11001011#8, 0b00000101#8],
      decode [0b11001011#8, 0b00000110#8],
      decode [0b11001011#8, 0b00000111#8],
      decode [0b11001011#8, 0b00001000#8],
      decode [0b11001011#8, 0b00001001#8],
      decode [0b11001011#8, 0b00001010#8],
      decode [0b11001011#8, 0b00001011#8],
      decode [0b11001011#8, 0b00001100#8],
      decode [0b11001011#8, 0b00001101#8],
      decode [0b11001011#8, 0b00001110#8],
      decode [0b11001011#8, 0b00001111#8] ] =
    [ .ok .rlc_B [],
      .ok .rlc_C [],
      .ok .rlc_D [],
      .ok .rlc_E [],
      .ok .rlc_H [],
      .ok .rlc_L [],
      .ok .rlc_atHL [],
      .ok .rlc_A [],
      .ok .rrc_B [],
      .ok .rrc_C [],
      .ok .rrc_D [],
      .ok .rrc_E [],
      .ok .rrc_H [],
      .ok .rrc_L [],
      .ok .rrc_atHL [],
      .ok .rrc_A [] ] := by rfl

/-- CB entries 0x10 to 0x1F. -/
theorem test_decode_cb_1 :
    [ decode [0b11001011#8, 0b00010000#8],
      decode [0b11001011#8, 0b00010001#8],
      decode [0b11001011#8, 0b00010010#8],
      decode [0b11001011#8, 0b00010011#8],
      decode [0b11001011#8, 0b00010100#8],
      decode [0b11001011#8, 0b00010101#8],
      decode [0b11001011#8, 0b00010110#8],
      decode [0b11001011#8, 0b00010111#8],
      decode [0b11001011#8, 0b00011000#8],
      decode [0b11001011#8, 0b00011001#8],
      decode [0b11001011#8, 0b00011010#8],
      decode [0b11001011#8, 0b00011011#8],
      decode [0b11001011#8, 0b00011100#8],
      decode [0b11001011#8, 0b00011101#8],
      decode [0b11001011#8, 0b00011110#8],
      decode [0b11001011#8, 0b00011111#8] ] =
    [ .ok .rl_B [],
      .ok .rl_C [],
      .ok .rl_D [],
      .ok .rl_E [],
      .ok .rl_H [],
      .ok .rl_L [],
      .ok .rl_atHL [],
      .ok .rl_A [],
      .ok .rr_B [],
      .ok .rr_C [],
      .ok .rr_D [],
      .ok .rr_E [],
      .ok .rr_H [],
      .ok .rr_L [],
      .ok .rr_atHL [],
      .ok .rr_A [] ] := by rfl

/-- CB entries 0x20 to 0x2F. -/
theorem test_decode_cb_2 :
    [ decode [0b11001011#8, 0b00100000#8],
      decode [0b11001011#8, 0b00100001#8],
      decode [0b11001011#8, 0b00100010#8],
      decode [0b11001011#8, 0b00100011#8],
      decode [0b11001011#8, 0b00100100#8],
      decode [0b11001011#8, 0b00100101#8],
      decode [0b11001011#8, 0b00100110#8],
      decode [0b11001011#8, 0b00100111#8],
      decode [0b11001011#8, 0b00101000#8],
      decode [0b11001011#8, 0b00101001#8],
      decode [0b11001011#8, 0b00101010#8],
      decode [0b11001011#8, 0b00101011#8],
      decode [0b11001011#8, 0b00101100#8],
      decode [0b11001011#8, 0b00101101#8],
      decode [0b11001011#8, 0b00101110#8],
      decode [0b11001011#8, 0b00101111#8] ] =
    [ .ok .sla_B [],
      .ok .sla_C [],
      .ok .sla_D [],
      .ok .sla_E [],
      .ok .sla_H [],
      .ok .sla_L [],
      .ok .sla_atHL [],
      .ok .sla_A [],
      .ok .sra_B [],
      .ok .sra_C [],
      .ok .sra_D [],
      .ok .sra_E [],
      .ok .sra_H [],
      .ok .sra_L [],
      .ok .sra_atHL [],
      .ok .sra_A [] ] := by rfl

/-- CB entries 0x30 to 0x3F. -/
theorem test_decode_cb_3 :
    [ decode [0b11001011#8, 0b00110000#8],
      decode [0b11001011#8, 0b00110001#8],
      decode [0b11001011#8, 0b00110010#8],
      decode [0b11001011#8, 0b00110011#8],
      decode [0b11001011#8, 0b00110100#8],
      decode [0b11001011#8, 0b00110101#8],
      decode [0b11001011#8, 0b00110110#8],
      decode [0b11001011#8, 0b00110111#8],
      decode [0b11001011#8, 0b00111000#8],
      decode [0b11001011#8, 0b00111001#8],
      decode [0b11001011#8, 0b00111010#8],
      decode [0b11001011#8, 0b00111011#8],
      decode [0b11001011#8, 0b00111100#8],
      decode [0b11001011#8, 0b00111101#8],
      decode [0b11001011#8, 0b00111110#8],
      decode [0b11001011#8, 0b00111111#8] ] =
    [ .ok .swap_B [],
      .ok .swap_C [],
      .ok .swap_D [],
      .ok .swap_E [],
      .ok .swap_H [],
      .ok .swap_L [],
      .ok .swap_atHL [],
      .ok .swap_A [],
      .ok .srl_B [],
      .ok .srl_C [],
      .ok .srl_D [],
      .ok .srl_E [],
      .ok .srl_H [],
      .ok .srl_L [],
      .ok .srl_atHL [],
      .ok .srl_A [] ] := by rfl

/-- CB entries 0x40 to 0x4F. -/
theorem test_decode_cb_4 :
    [ decode [0b11001011#8, 0b01000000#8],
      decode [0b11001011#8, 0b01000001#8],
      decode [0b11001011#8, 0b01000010#8],
      decode [0b11001011#8, 0b01000011#8],
      decode [0b11001011#8, 0b01000100#8],
      decode [0b11001011#8, 0b01000101#8],
      decode [0b11001011#8, 0b01000110#8],
      decode [0b11001011#8, 0b01000111#8],
      decode [0b11001011#8, 0b01001000#8],
      decode [0b11001011#8, 0b01001001#8],
      decode [0b11001011#8, 0b01001010#8],
      decode [0b11001011#8, 0b01001011#8],
      decode [0b11001011#8, 0b01001100#8],
      decode [0b11001011#8, 0b01001101#8],
      decode [0b11001011#8, 0b01001110#8],
      decode [0b11001011#8, 0b01001111#8] ] =
    [ .ok .bit_0_B [],
      .ok .bit_0_C [],
      .ok .bit_0_D [],
      .ok .bit_0_E [],
      .ok .bit_0_H [],
      .ok .bit_0_L [],
      .ok .bit_0_atHL [],
      .ok .bit_0_A [],
      .ok .bit_1_B [],
      .ok .bit_1_C [],
      .ok .bit_1_D [],
      .ok .bit_1_E [],
      .ok .bit_1_H [],
      .ok .bit_1_L [],
      .ok .bit_1_atHL [],
      .ok .bit_1_A [] ] := by rfl

/-- CB entries 0x50 to 0x5F. -/
theorem test_decode_cb_5 :
    [ decode [0b11001011#8, 0b01010000#8],
      decode [0b11001011#8, 0b01010001#8],
      decode [0b11001011#8, 0b01010010#8],
      decode [0b11001011#8, 0b01010011#8],
      decode [0b11001011#8, 0b01010100#8],
      decode [0b11001011#8, 0b01010101#8],
      decode [0b11001011#8, 0b01010110#8],
      decode [0b11001011#8, 0b01010111#8],
      decode [0b11001011#8, 0b01011000#8],
      decode [0b11001011#8, 0b01011001#8],
      decode [0b11001011#8, 0b01011010#8],
      decode [0b11001011#8, 0b01011011#8],
      decode [0b11001011#8, 0b01011100#8],
      decode [0b11001011#8, 0b01011101#8],
      decode [0b11001011#8, 0b01011110#8],
      decode [0b11001011#8, 0b01011111#8] ] =
    [ .ok .bit_2_B [],
      .ok .bit_2_C [],
      .ok .bit_2_D [],
      .ok .bit_2_E [],
      .ok .bit_2_H [],
      .ok .bit_2_L [],
      .ok .bit_2_atHL [],
      .ok .bit_2_A [],
      .ok .bit_3_B [],
      .ok .bit_3_C [],
      .ok .bit_3_D [],
      .ok .bit_3_E [],
      .ok .bit_3_H [],
      .ok .bit_3_L [],
      .ok .bit_3_atHL [],
      .ok .bit_3_A [] ] := by rfl

/-- CB entries 0x60 to 0x6F. -/
theorem test_decode_cb_6 :
    [ decode [0b11001011#8, 0b01100000#8],
      decode [0b11001011#8, 0b01100001#8],
      decode [0b11001011#8, 0b01100010#8],
      decode [0b11001011#8, 0b01100011#8],
      decode [0b11001011#8, 0b01100100#8],
      decode [0b11001011#8, 0b01100101#8],
      decode [0b11001011#8, 0b01100110#8],
      decode [0b11001011#8, 0b01100111#8],
      decode [0b11001011#8, 0b01101000#8],
      decode [0b11001011#8, 0b01101001#8],
      decode [0b11001011#8, 0b01101010#8],
      decode [0b11001011#8, 0b01101011#8],
      decode [0b11001011#8, 0b01101100#8],
      decode [0b11001011#8, 0b01101101#8],
      decode [0b11001011#8, 0b01101110#8],
      decode [0b11001011#8, 0b01101111#8] ] =
    [ .ok .bit_4_B [],
      .ok .bit_4_C [],
      .ok .bit_4_D [],
      .ok .bit_4_E [],
      .ok .bit_4_H [],
      .ok .bit_4_L [],
      .ok .bit_4_atHL [],
      .ok .bit_4_A [],
      .ok .bit_5_B [],
      .ok .bit_5_C [],
      .ok .bit_5_D [],
      .ok .bit_5_E [],
      .ok .bit_5_H [],
      .ok .bit_5_L [],
      .ok .bit_5_atHL [],
      .ok .bit_5_A [] ] := by rfl

/-- CB entries 0x70 to 0x7F. -/
theorem test_decode_cb_7 :
    [ decode [0b11001011#8, 0b01110000#8],
      decode [0b11001011#8, 0b01110001#8],
      decode [0b11001011#8, 0b01110010#8],
      decode [0b11001011#8, 0b01110011#8],
      decode [0b11001011#8, 0b01110100#8],
      decode [0b11001011#8, 0b01110101#8],
      decode [0b11001011#8, 0b01110110#8],
      decode [0b11001011#8, 0b01110111#8],
      decode [0b11001011#8, 0b01111000#8],
      decode [0b11001011#8, 0b01111001#8],
      decode [0b11001011#8, 0b01111010#8],
      decode [0b11001011#8, 0b01111011#8],
      decode [0b11001011#8, 0b01111100#8],
      decode [0b11001011#8, 0b01111101#8],
      decode [0b11001011#8, 0b01111110#8],
      decode [0b11001011#8, 0b01111111#8] ] =
    [ .ok .bit_6_B [],
      .ok .bit_6_C [],
      .ok .bit_6_D [],
      .ok .bit_6_E [],
      .ok .bit_6_H [],
      .ok .bit_6_L [],
      .ok .bit_6_atHL [],
      .ok .bit_6_A [],
      .ok .bit_7_B [],
      .ok .bit_7_C [],
      .ok .bit_7_D [],
      .ok .bit_7_E [],
      .ok .bit_7_H [],
      .ok .bit_7_L [],
      .ok .bit_7_atHL [],
      .ok .bit_7_A [] ] := by rfl

/-- CB entries 0x80 to 0x8F. -/
theorem test_decode_cb_8 :
    [ decode [0b11001011#8, 0b10000000#8],
      decode [0b11001011#8, 0b10000001#8],
      decode [0b11001011#8, 0b10000010#8],
      decode [0b11001011#8, 0b10000011#8],
      decode [0b11001011#8, 0b10000100#8],
      decode [0b11001011#8, 0b10000101#8],
      decode [0b11001011#8, 0b10000110#8],
      decode [0b11001011#8, 0b10000111#8],
      decode [0b11001011#8, 0b10001000#8],
      decode [0b11001011#8, 0b10001001#8],
      decode [0b11001011#8, 0b10001010#8],
      decode [0b11001011#8, 0b10001011#8],
      decode [0b11001011#8, 0b10001100#8],
      decode [0b11001011#8, 0b10001101#8],
      decode [0b11001011#8, 0b10001110#8],
      decode [0b11001011#8, 0b10001111#8] ] =
    [ .ok .res_0_B [],
      .ok .res_0_C [],
      .ok .res_0_D [],
      .ok .res_0_E [],
      .ok .res_0_H [],
      .ok .res_0_L [],
      .ok .res_0_atHL [],
      .ok .res_0_A [],
      .ok .res_1_B [],
      .ok .res_1_C [],
      .ok .res_1_D [],
      .ok .res_1_E [],
      .ok .res_1_H [],
      .ok .res_1_L [],
      .ok .res_1_atHL [],
      .ok .res_1_A [] ] := by rfl

/-- CB entries 0x90 to 0x9F. -/
theorem test_decode_cb_9 :
    [ decode [0b11001011#8, 0b10010000#8],
      decode [0b11001011#8, 0b10010001#8],
      decode [0b11001011#8, 0b10010010#8],
      decode [0b11001011#8, 0b10010011#8],
      decode [0b11001011#8, 0b10010100#8],
      decode [0b11001011#8, 0b10010101#8],
      decode [0b11001011#8, 0b10010110#8],
      decode [0b11001011#8, 0b10010111#8],
      decode [0b11001011#8, 0b10011000#8],
      decode [0b11001011#8, 0b10011001#8],
      decode [0b11001011#8, 0b10011010#8],
      decode [0b11001011#8, 0b10011011#8],
      decode [0b11001011#8, 0b10011100#8],
      decode [0b11001011#8, 0b10011101#8],
      decode [0b11001011#8, 0b10011110#8],
      decode [0b11001011#8, 0b10011111#8] ] =
    [ .ok .res_2_B [],
      .ok .res_2_C [],
      .ok .res_2_D [],
      .ok .res_2_E [],
      .ok .res_2_H [],
      .ok .res_2_L [],
      .ok .res_2_atHL [],
      .ok .res_2_A [],
      .ok .res_3_B [],
      .ok .res_3_C [],
      .ok .res_3_D [],
      .ok .res_3_E [],
      .ok .res_3_H [],
      .ok .res_3_L [],
      .ok .res_3_atHL [],
      .ok .res_3_A [] ] := by rfl

/-- CB entries 0xA0 to 0xAF. -/
theorem test_decode_cb_A :
    [ decode [0b11001011#8, 0b10100000#8],
      decode [0b11001011#8, 0b10100001#8],
      decode [0b11001011#8, 0b10100010#8],
      decode [0b11001011#8, 0b10100011#8],
      decode [0b11001011#8, 0b10100100#8],
      decode [0b11001011#8, 0b10100101#8],
      decode [0b11001011#8, 0b10100110#8],
      decode [0b11001011#8, 0b10100111#8],
      decode [0b11001011#8, 0b10101000#8],
      decode [0b11001011#8, 0b10101001#8],
      decode [0b11001011#8, 0b10101010#8],
      decode [0b11001011#8, 0b10101011#8],
      decode [0b11001011#8, 0b10101100#8],
      decode [0b11001011#8, 0b10101101#8],
      decode [0b11001011#8, 0b10101110#8],
      decode [0b11001011#8, 0b10101111#8] ] =
    [ .ok .res_4_B [],
      .ok .res_4_C [],
      .ok .res_4_D [],
      .ok .res_4_E [],
      .ok .res_4_H [],
      .ok .res_4_L [],
      .ok .res_4_atHL [],
      .ok .res_4_A [],
      .ok .res_5_B [],
      .ok .res_5_C [],
      .ok .res_5_D [],
      .ok .res_5_E [],
      .ok .res_5_H [],
      .ok .res_5_L [],
      .ok .res_5_atHL [],
      .ok .res_5_A [] ] := by rfl

/-- CB entries 0xB0 to 0xBF. -/
theorem test_decode_cb_B :
    [ decode [0b11001011#8, 0b10110000#8],
      decode [0b11001011#8, 0b10110001#8],
      decode [0b11001011#8, 0b10110010#8],
      decode [0b11001011#8, 0b10110011#8],
      decode [0b11001011#8, 0b10110100#8],
      decode [0b11001011#8, 0b10110101#8],
      decode [0b11001011#8, 0b10110110#8],
      decode [0b11001011#8, 0b10110111#8],
      decode [0b11001011#8, 0b10111000#8],
      decode [0b11001011#8, 0b10111001#8],
      decode [0b11001011#8, 0b10111010#8],
      decode [0b11001011#8, 0b10111011#8],
      decode [0b11001011#8, 0b10111100#8],
      decode [0b11001011#8, 0b10111101#8],
      decode [0b11001011#8, 0b10111110#8],
      decode [0b11001011#8, 0b10111111#8] ] =
    [ .ok .res_6_B [],
      .ok .res_6_C [],
      .ok .res_6_D [],
      .ok .res_6_E [],
      .ok .res_6_H [],
      .ok .res_6_L [],
      .ok .res_6_atHL [],
      .ok .res_6_A [],
      .ok .res_7_B [],
      .ok .res_7_C [],
      .ok .res_7_D [],
      .ok .res_7_E [],
      .ok .res_7_H [],
      .ok .res_7_L [],
      .ok .res_7_atHL [],
      .ok .res_7_A [] ] := by rfl

/-- CB entries 0xC0 to 0xCF. -/
theorem test_decode_cb_C :
    [ decode [0b11001011#8, 0b11000000#8],
      decode [0b11001011#8, 0b11000001#8],
      decode [0b11001011#8, 0b11000010#8],
      decode [0b11001011#8, 0b11000011#8],
      decode [0b11001011#8, 0b11000100#8],
      decode [0b11001011#8, 0b11000101#8],
      decode [0b11001011#8, 0b11000110#8],
      decode [0b11001011#8, 0b11000111#8],
      decode [0b11001011#8, 0b11001000#8],
      decode [0b11001011#8, 0b11001001#8],
      decode [0b11001011#8, 0b11001010#8],
      decode [0b11001011#8, 0b11001011#8],
      decode [0b11001011#8, 0b11001100#8],
      decode [0b11001011#8, 0b11001101#8],
      decode [0b11001011#8, 0b11001110#8],
      decode [0b11001011#8, 0b11001111#8] ] =
    [ .ok .set_0_B [],
      .ok .set_0_C [],
      .ok .set_0_D [],
      .ok .set_0_E [],
      .ok .set_0_H [],
      .ok .set_0_L [],
      .ok .set_0_atHL [],
      .ok .set_0_A [],
      .ok .set_1_B [],
      .ok .set_1_C [],
      .ok .set_1_D [],
      .ok .set_1_E [],
      .ok .set_1_H [],
      .ok .set_1_L [],
      .ok .set_1_atHL [],
      .ok .set_1_A [] ] := by rfl

/-- CB entries 0xD0 to 0xDF. -/
theorem test_decode_cb_D :
    [ decode [0b11001011#8, 0b11010000#8],
      decode [0b11001011#8, 0b11010001#8],
      decode [0b11001011#8, 0b11010010#8],
      decode [0b11001011#8, 0b11010011#8],
      decode [0b11001011#8, 0b11010100#8],
      decode [0b11001011#8, 0b11010101#8],
      decode [0b11001011#8, 0b11010110#8],
      decode [0b11001011#8, 0b11010111#8],
      decode [0b11001011#8, 0b11011000#8],
      decode [0b11001011#8, 0b11011001#8],
      decode [0b11001011#8, 0b11011010#8],
      decode [0b11001011#8, 0b11011011#8],
      decode [0b11001011#8, 0b11011100#8],
      decode [0b11001011#8, 0b11011101#8],
      decode [0b11001011#8, 0b11011110#8],
      decode [0b11001011#8, 0b11011111#8] ] =
    [ .ok .set_2_B [],
      .ok .set_2_C [],
      .ok .set_2_D [],
      .ok .set_2_E [],
      .ok .set_2_H [],
      .ok .set_2_L [],
      .ok .set_2_atHL [],
      .ok .set_2_A [],
      .ok .set_3_B [],
      .ok .set_3_C [],
      .ok .set_3_D [],
      .ok .set_3_E [],
      .ok .set_3_H [],
      .ok .set_3_L [],
      .ok .set_3_atHL [],
      .ok .set_3_A [] ] := by rfl

/-- CB entries 0xE0 to 0xEF. -/
theorem test_decode_cb_E :
    [ decode [0b11001011#8, 0b11100000#8],
      decode [0b11001011#8, 0b11100001#8],
      decode [0b11001011#8, 0b11100010#8],
      decode [0b11001011#8, 0b11100011#8],
      decode [0b11001011#8, 0b11100100#8],
      decode [0b11001011#8, 0b11100101#8],
      decode [0b11001011#8, 0b11100110#8],
      decode [0b11001011#8, 0b11100111#8],
      decode [0b11001011#8, 0b11101000#8],
      decode [0b11001011#8, 0b11101001#8],
      decode [0b11001011#8, 0b11101010#8],
      decode [0b11001011#8, 0b11101011#8],
      decode [0b11001011#8, 0b11101100#8],
      decode [0b11001011#8, 0b11101101#8],
      decode [0b11001011#8, 0b11101110#8],
      decode [0b11001011#8, 0b11101111#8] ] =
    [ .ok .set_4_B [],
      .ok .set_4_C [],
      .ok .set_4_D [],
      .ok .set_4_E [],
      .ok .set_4_H [],
      .ok .set_4_L [],
      .ok .set_4_atHL [],
      .ok .set_4_A [],
      .ok .set_5_B [],
      .ok .set_5_C [],
      .ok .set_5_D [],
      .ok .set_5_E [],
      .ok .set_5_H [],
      .ok .set_5_L [],
      .ok .set_5_atHL [],
      .ok .set_5_A [] ] := by rfl

/-- CB entries 0xF0 to 0xFF. -/
theorem test_decode_cb_F :
    [ decode [0b11001011#8, 0b11110000#8],
      decode [0b11001011#8, 0b11110001#8],
      decode [0b11001011#8, 0b11110010#8],
      decode [0b11001011#8, 0b11110011#8],
      decode [0b11001011#8, 0b11110100#8],
      decode [0b11001011#8, 0b11110101#8],
      decode [0b11001011#8, 0b11110110#8],
      decode [0b11001011#8, 0b11110111#8],
      decode [0b11001011#8, 0b11111000#8],
      decode [0b11001011#8, 0b11111001#8],
      decode [0b11001011#8, 0b11111010#8],
      decode [0b11001011#8, 0b11111011#8],
      decode [0b11001011#8, 0b11111100#8],
      decode [0b11001011#8, 0b11111101#8],
      decode [0b11001011#8, 0b11111110#8],
      decode [0b11001011#8, 0b11111111#8] ] =
    [ .ok .set_6_B [],
      .ok .set_6_C [],
      .ok .set_6_D [],
      .ok .set_6_E [],
      .ok .set_6_H [],
      .ok .set_6_L [],
      .ok .set_6_atHL [],
      .ok .set_6_A [],
      .ok .set_7_B [],
      .ok .set_7_C [],
      .ok .set_7_D [],
      .ok .set_7_E [],
      .ok .set_7_H [],
      .ok .set_7_L [],
      .ok .set_7_atHL [],
      .ok .set_7_A [] ] := by rfl

/-- A list of bytes that holds no whole instruction is rejected by name. -/
theorem test_decode_rejects_truncated :
    decode [] = .rejected .noBytes ∧ decode [0x3E#8] = .rejected (.truncated 0x3E#8 2) ∧
      decode [0xC3#8, 0x00#8] = .rejected (.truncated 0xC3#8 3) ∧ decode [0xCB#8] = .rejected (.truncated 0xCB#8 2) := by
  decide

/-- Table words: an 8-bit row, a 16-bit CB row as the table writes it, and the table's own row for the prefix. -/
theorem test_decodeTableWord :
    decodeTableWord 8 0x78 = some .ld_A_B ∧ decodeTableWord 8 0x3E = some (.ld_A_d8 0x00#8) ∧
      decodeTableWord 16 0xCB37 = some .swap_A ∧ decodeTableWord 8 0xCB = some .prefix_CB ∧
      decodeTableWord 16 0x423E = some (.ld_A_d8 0x42#8) ∧ decodeTableWord 24 0x1234C3 = some (.jp_a16 0x1234#16) := by
  decide

/-- The very next step runs the word that was placed. -/
theorem test_withFetchWord_runs_the_word :
    step (State.reset.withFetchWord 16 0xCB37) = exec .swap_A (State.reset.withFetchWord 16 0xCB37) ∧
      step (State.reset.withFetchWord 8 0xCB) = exec .prefix_CB (State.reset.withFetchWord 8 0xCB) ∧
      step (State.reset.withFetchWord 8 0xD3) = exec .invalid_D3 (State.reset.withFetchWord 8 0xD3) := by
  exact ⟨rfl, rfl, rfl⟩

/-! ### Single steps -/

/-- V1. -/
theorem test_nop_wraps_pc :
    after (start 0xFFFF#16 [0x00#8])
      (fun t => t.pc == 0x0000#16 && t.ticks == 4) = true := by decide

/-- V2. -/
theorem test_ld_A_d8_immediate_across_the_wrap :
    after (start 0xFFFF#16 [0x3E#8, 0x5C#8])
      (fun t => t.a == 0x5C#8 && t.pc == 0x0001#16) = true := by decide

/-- V3. -/
theorem test_swap_A_prefix_across_the_wrap :
    after { start 0xFFFF#16 [0xCB#8, 0x37#8] with a := 0xA5#8 }
      (fun t => t.a == 0x5A#8 && t.pc == 0x0001#16 && t.ticks == 8) = true := by decide

/-- V4. -/
theorem test_inc_B_keeps_carry :
    after { start 0x0100#16 [0x04#8] with b := 0x0F#8, f := 0xF0#8 }
      (fun t => t.b == 0x10#8 && t.f == 0x30#8) = true := by decide

/-- V5. -/
theorem test_add_HL_BC_keeps_zero :
    after { start 0x0100#16 [0x09#8] with h := 0x00#8, l := 0x00#8, b := 0x00#8, c := 0x00#8, f := 0xC0#8 }
      (fun t => t.pair .HL == 0x0000#16 && t.f == 0x80#8) = true := by decide

/-- V6. -/
theorem test_ld_A_A :
    after { start 0x0100#16 [0x7F#8] with a := 0x3C#8, f := 0xA0#8 }
      (fun t => t.a == 0x3C#8 && t.f == 0xA0#8 && t.pc == 0x0101#16 && t.ticks == 4) = true := by decide

/-- V7. -/
theorem test_ld_L_atHL_takes_the_address_first :
    after { start 0x0100#16 [0x6E#8] [(0xC0F0, 0x12#8)] with h := 0xC0#8, l := 0xF0#8 }
      (fun t => t.pair .HL == 0xC012#16 && t.ticks == 8) = true := by decide

/-- V8. -/
theorem test_ld_atHL_d8_at_the_top :
    after { start 0x0100#16 [0x36#8, 0x9C#8] with h := 0xFF#8, l := 0xFF#8 }
      (fun t => cell t 0xFFFF == 0x9C#8 && t.pc == 0x0102#16 && t.ticks == 12) = true := by decide

/-- V9. -/
theorem test_ld_atHLinc_A_wraps :
    after { start 0x0100#16 [0x22#8] with h := 0xFF#8, l := 0xFF#8, a := 0x77#8 }
      (fun t => cell t 0xFFFF == 0x77#8 && t.pair .HL == 0x0000#16) = true := by decide

/-- V10. -/
theorem test_ld_A_atHLdec_wraps :
    after { start 0x0100#16 [0x3A#8] [(0x0000, 0x3A#8)] with h := 0x00#8, l := 0x00#8 }
      (fun t => t.a == 0x3A#8 && t.pair .HL == 0xFFFF#16) = true := by decide

/-- V11. -/
theorem test_ldh_atA8_A_writes_FFFF :
    after { start 0x0100#16 [0xE0#8, 0xFF#8] with a := 0x1F#8 }
      (fun t => cell t 0xFFFF == 0x1F#8 && t.ticks == 12) = true := by decide

/-- V12. -/
theorem test_ld_atC_A_writes_FF00 :
    after { start 0x0100#16 [0xE2#8] with c := 0x00#8, a := 0xAA#8 }
      (fun t => cell t 0xFF00 == 0xAA#8 && t.pc == 0x0101#16 && t.ticks == 8) = true := by decide

/-- V13. -/
theorem test_ld_atA16_SP_wraps :
    after { start 0x0100#16 [0x08#8, 0xFF#8, 0xFF#8] with sp := 0xBEEF#16 }
      (fun t => cell t 0xFFFF == 0xEF#8 && cell t 0x0000 == 0xBE#8) = true := by decide

/-- V14. -/
theorem test_push_DE_wraps :
    after { start 0x0100#16 [0xD5#8] with sp := 0x0000#16, d := 0xA1#8, e := 0xB2#8 }
      (fun t => cell t 0xFFFF == 0xA1#8 && cell t 0xFFFE == 0xB2#8 && t.sp == 0xFFFE#16 && t.ticks == 16) = true := by decide

/-- V15. -/
theorem test_pop_HL_wraps :
    after { start 0x0100#16 [0xE1#8] [(0xFFFF, 0x34#8), (0x0000, 0x12#8)] with sp := 0xFFFF#16 }
      (fun t => t.pair .HL == 0x1234#16 && t.sp == 0x0001#16 && t.ticks == 12) = true := by decide

/-- V16. -/
theorem test_pop_AF_discards_low_nibble :
    after { start 0x0100#16 [0xF1#8] [(0xC000, 0x5F#8), (0xC001, 0x00#8)] with sp := 0xC000#16 }
      (fun t => t.a == 0x00#8 && t.f == 0x50#8 && t.sp == 0xC002#16) = true := by decide

/-- V18. -/
theorem test_ld_HL_SPr8_carries :
    after { start 0x0100#16 [0xF8#8, 0x01#8] with sp := 0x00FF#16 }
      (fun t => t.pair .HL == 0x0100#16 && t.f == 0x30#8) = true := by decide

/-- V17. -/
theorem test_ld_HL_SPr8_negative :
    after { start 0x0100#16 [0xF8#8, 0x80#8] with sp := 0x0000#16 }
      (fun t => t.pair .HL == 0xFF80#16 && t.sp == 0x0000#16 && t.f == 0x00#8) = true := by decide

/-- V20. -/
theorem test_add_A_d8_carries :
    after { start 0x0100#16 [0xC6#8, 0x01#8] with a := 0xFF#8 }
      (fun t => t.a == 0x00#8 && t.f == 0xB0#8) = true := by decide

/-- V21. -/
theorem test_adc_A_d8_carries :
    after { start 0x0100#16 [0xCE#8, 0x00#8] with a := 0xFF#8, f := 0x10#8 }
      (fun t => t.a == 0x00#8 && t.f == 0xB0#8) = true := by decide

/-- V22. -/
theorem test_sub_d8_borrows :
    after { start 0x0100#16 [0xD6#8, 0x01#8] with a := 0x00#8 }
      (fun t => t.a == 0xFF#8 && t.f == 0x70#8) = true := by decide

/-- V23. -/
theorem test_sbc_A_d8_borrows :
    after { start 0x0100#16 [0xDE#8, 0xFF#8] with a := 0x00#8, f := 0x10#8 }
      (fun t => t.a == 0x00#8 && t.f == 0xF0#8) = true := by decide

/-- V24. -/
theorem test_sub_A_is_zero :
    after { start 0x0100#16 [0x97#8] with a := 0x5D#8, f := 0x30#8 }
      (fun t => t.a == 0x00#8 && t.f == 0xC0#8) = true := by decide

/-- V25. -/
theorem test_xor_A_is_zero :
    after { start 0x0100#16 [0xAF#8] with a := 0x5D#8, f := 0x70#8 }
      (fun t => t.a == 0x00#8 && t.f == 0x80#8) = true := by decide

/-- V26. -/
theorem test_adc_A_A :
    after { start 0x0100#16 [0x8F#8] with a := 0x88#8, f := 0x10#8 }
      (fun t => t.a == 0x11#8 && t.f == 0x30#8) = true := by decide

/-- V27. -/
theorem test_cp_A :
    after { start 0x0100#16 [0xBF#8] with a := 0x42#8 }
      (fun t => t.a == 0x42#8 && t.f == 0xC0#8) = true := by decide

/-- V28. -/
theorem test_cp_d8_borrows :
    after { start 0x0100#16 [0xFE#8, 0x43#8] with a := 0x42#8 }
      (fun t => t.a == 0x42#8 && t.f == 0x70#8) = true := by decide

/-- V29. -/
theorem test_adc_A_B_carry_in :
    after { start 0x0100#16 [0x88#8] with a := 0x00#8, b := 0x0F#8, f := 0x10#8 }
      (fun t => t.a == 0x10#8 && t.f == 0x20#8) = true := by decide

/-- V30. -/
theorem test_sbc_A_B_carry_in :
    after { start 0x0100#16 [0x98#8] with a := 0x10#8, b := 0x0F#8, f := 0x10#8 }
      (fun t => t.a == 0x00#8 && t.f == 0xE0#8) = true := by decide

/-- V76. -/
theorem test_adc_A_B_fold :
    after { start 0x0100#16 [0x88#8] with a := 0x00#8, b := 0x0F#8, f := 0x10#8, launch := { Launch.default with adcSbcMode := .fold } }
      (fun t => t.a == 0x10#8 && t.f == 0x00#8) = true := by decide

/-- V77. -/
theorem test_sbc_A_B_fold :
    after { start 0x0100#16 [0x98#8] with a := 0x10#8, b := 0x0F#8, f := 0x10#8, launch := { Launch.default with adcSbcMode := .fold } }
      (fun t => t.a == 0x00#8 && t.f == 0xC0#8) = true := by decide

/-- V31. -/
theorem test_inc_A_half_carry :
    after { start 0x0100#16 [0x3C#8] with a := 0x0F#8 }
      (fun t => t.a == 0x10#8 && t.f == 0x20#8) = true := by decide

/-- S-2, with C = 1. -/
theorem test_inc_A_wraps :
    after { start 0x0100#16 [0x3C#8] with a := 0xFF#8, f := 0x10#8 }
      (fun t => t.a == 0x00#8 && t.f == 0xB0#8) = true := by decide

/-- V32. -/
theorem test_dec_A_half_borrow :
    after { start 0x0100#16 [0x3D#8] with a := 0x10#8, f := 0x10#8 }
      (fun t => t.a == 0x0F#8 && t.f == 0x70#8) = true := by decide

/-- V33. -/
theorem test_dec_A_wraps :
    after { start 0x0100#16 [0x3D#8] with a := 0x00#8 }
      (fun t => t.a == 0xFF#8 && t.f == 0x60#8) = true := by decide

/-- V34. -/
theorem test_dec_atHL_at_the_top :
    after { start 0x0100#16 [0x35#8] [(0xFFFF, 0x01#8)] with h := 0xFF#8, l := 0xFF#8 }
      (fun t => cell t 0xFFFF == 0x00#8 && t.f == 0xC0#8 && t.ticks == 12) = true := by decide

/-- V36, its second step: 0x83 - 0x38 = 0x4B with N = H = 1. -/
theorem test_daa_after_subtract :
    after { start 0x0100#16 [0x27#8] with a := 0x4B#8, f := 0x60#8 }
      (fun t => t.a == 0x45#8 && t.f == 0x40#8) = true := by decide

/-- V37, its second step: 0x99 + 0x01 = 0x9A. -/
theorem test_daa_after_add :
    after { start 0x0100#16 [0x27#8] with a := 0x9A#8, f := 0x00#8 }
      (fun t => t.a == 0x00#8 && t.f == 0x90#8) = true := by decide

/-- V40, its second step. -/
theorem test_cpl :
    after { start 0x0100#16 [0x2F#8] with a := 0xA5#8, f := 0xE0#8 }
      (fun t => t.a == 0x5A#8 && t.f == 0xE0#8) = true := by decide

/-- V41, its second step. -/
theorem test_ccf :
    after { start 0x0100#16 [0x3F#8] with f := 0x10#8 }
      (fun t => t.f == 0x00#8) = true := by decide

/-- V41, its first step. -/
theorem test_scf :
    after { start 0x0100#16 [0x37#8] with f := 0x60#8 }
      (fun t => t.f == 0x10#8) = true := by decide

/-- V42. -/
theorem test_add_HL_HL_carries :
    after { start 0x0100#16 [0x29#8] with h := 0x80#8, l := 0x00#8 }
      (fun t => t.pair .HL == 0x0000#16 && t.f == 0x10#8) = true := by decide

/-- V43. -/
theorem test_add_HL_SP_half_carry :
    after { start 0x0100#16 [0x39#8] with h := 0x0F#8, l := 0xFF#8, sp := 0x0001#16, f := 0x40#8 }
      (fun t => t.pair .HL == 0x1000#16 && t.f == 0x20#8) = true := by decide

/-- V44. -/
theorem test_inc_SP_wraps :
    after { start 0x0100#16 [0x33#8] with sp := 0xFFFF#16, f := 0xF0#8 }
      (fun t => t.sp == 0x0000#16 && t.f == 0xF0#8) = true := by decide

/-- V45. -/
theorem test_dec_BC_wraps :
    after { start 0x0100#16 [0x0B#8] with b := 0x00#8, c := 0x00#8 }
      (fun t => t.pair .BC == 0xFFFF#16 && t.f == 0x00#8) = true := by decide

/-- V46. -/
theorem test_add_SP_r8_minus_one :
    after { start 0x0100#16 [0xE8#8, 0xFF#8] with sp := 0x0001#16 }
      (fun t => t.sp == 0x0000#16 && t.f == 0x30#8) = true := by decide

/-- V47. -/
theorem test_add_SP_r8_minus_128 :
    after { start 0x0100#16 [0xE8#8, 0x80#8] with sp := 0x1000#16 }
      (fun t => t.sp == 0x0F80#16 && t.f == 0x00#8) = true := by decide

/-- V48. -/
theorem test_rla :
    after { start 0x0100#16 [0x17#8] with a := 0x00#8, f := 0x10#8 }
      (fun t => t.a == 0x01#8 && t.f == 0x00#8) = true := by decide

/-- V49. -/
theorem test_rra_forces_zero_flag :
    after { start 0x0100#16 [0x1F#8] with a := 0x01#8 }
      (fun t => t.a == 0x00#8 && t.f == 0x10#8) = true := by decide

/-- V50. -/
theorem test_rr_A_computes_zero_flag :
    after { start 0x0100#16 [0xCB#8, 0x1F#8] with a := 0x01#8 }
      (fun t => t.a == 0x00#8 && t.f == 0x90#8) = true := by decide

/-- V51. -/
theorem test_rlc_A :
    after { start 0x0100#16 [0xCB#8, 0x07#8] with a := 0x80#8 }
      (fun t => t.a == 0x01#8 && t.f == 0x10#8) = true := by decide

/-- V52. -/
theorem test_sra_B_keeps_the_sign :
    after { start 0x0100#16 [0xCB#8, 0x28#8] with b := 0x80#8 }
      (fun t => t.b == 0xC0#8 && t.f == 0x00#8) = true := by decide

/-- V53. -/
theorem test_sra_B_to_zero :
    after { start 0x0100#16 [0xCB#8, 0x28#8] with b := 0x01#8 }
      (fun t => t.b == 0x00#8 && t.f == 0x90#8) = true := by decide

/-- V54. -/
theorem test_swap_C_clears_carry :
    after { start 0x0100#16 [0xCB#8, 0x31#8] with c := 0x12#8, f := 0x10#8 }
      (fun t => t.c == 0x21#8 && t.f == 0x00#8) = true := by decide

/-- V55. -/
theorem test_bit_0_A :
    after { start 0x0100#16 [0xCB#8, 0x47#8] with a := 0xFE#8, f := 0x10#8 }
      (fun t => t.a == 0xFE#8 && t.f == 0xB0#8) = true := by decide

/-- V56. -/
theorem test_bit_7_atHL :
    after { start 0x0100#16 [0xCB#8, 0x7E#8] [(0xC000, 0x80#8)] with h := 0xC0#8, l := 0x00#8 }
      (fun t => cell t 0xC000 == 0x80#8 && t.f == 0x20#8 && t.ticks == 12) = true := by decide

/-- V57. -/
theorem test_set_7_A_already_set :
    after { start 0x0100#16 [0xCB#8, 0xFF#8] with a := 0x80#8 }
      (fun t => t.a == 0x80#8 && t.ticks == 8) = true := by decide

/-- V58. -/
theorem test_res_2_atHL :
    after { start 0x0100#16 [0xCB#8, 0x96#8] [(0xC000, 0xFF#8)] with h := 0xC0#8, l := 0x00#8, f := 0xF0#8 }
      (fun t => cell t 0xC000 == 0xFB#8 && t.f == 0xF0#8 && t.ticks == 16) = true := by decide

/-- V60. -/
theorem test_jr_r8_backward :
    after (start 0x0100#16 [0x18#8, 0x80#8])
      (fun t => t.pc == 0x0082#16) = true := by decide

/-- V61. -/
theorem test_jr_r8_wraps :
    after (start 0xFFFE#16 [0x18#8, 0x02#8])
      (fun t => t.pc == 0x0002#16) = true := by decide

/-- V62. -/
theorem test_jr_C_taken :
    after { start 0x0100#16 [0x38#8, 0x10#8] with f := 0x10#8 }
      (fun t => t.pc == 0x0112#16 && t.ticks == 12) = true := by decide

/-- V63. -/
theorem test_jr_NC_not_taken :
    after { start 0x0100#16 [0x30#8, 0x10#8] with f := 0x10#8 }
      (fun t => t.pc == 0x0102#16 && t.ticks == 8) = true := by decide

/-- V64. -/
theorem test_jp_NC_taken :
    after (start 0x0100#16 [0xD2#8, 0x00#8, 0x30#8])
      (fun t => t.pc == 0x3000#16 && t.ticks == 16) = true := by decide

/-- V65. -/
theorem test_jp_NZ_not_taken :
    after { start 0x0100#16 [0xC2#8, 0x00#8, 0x30#8] with f := 0x80#8 }
      (fun t => t.pc == 0x0103#16 && t.ticks == 12) = true := by decide

/-- V66. -/
theorem test_call_return_address_wraps :
    after { start 0xFFFD#16 [0xCD#8, 0x00#8, 0x20#8] with sp := 0xC000#16 }
      (fun t => cell t 0xBFFF == 0x00#8 && cell t 0xBFFE == 0x00#8 && t.sp == 0xBFFE#16 && t.pc == 0x2000#16) = true := by decide

/-- V67. -/
theorem test_call_stack_wraps :
    after { start 0x0100#16 [0xCD#8, 0x00#8, 0x20#8] with sp := 0x0001#16 }
      (fun t => cell t 0x0000 == 0x01#8 && cell t 0xFFFF == 0x03#8 && t.sp == 0xFFFF#16) = true := by decide

/-- V68. -/
theorem test_ret_stack_wraps :
    after { start 0x0100#16 [0xC9#8] [(0xFFFF, 0x00#8), (0x0000, 0x02#8)] with sp := 0xFFFF#16 }
      (fun t => t.pc == 0x0200#16 && t.sp == 0x0001#16) = true := by decide

/-- V69. -/
theorem test_ret_C_taken :
    after { start 0x0100#16 [0xD8#8] [(0xFFFC, 0x00#8), (0xFFFD, 0x03#8)] with sp := 0xFFFC#16, f := 0x10#8 }
      (fun t => t.pc == 0x0300#16 && t.sp == 0xFFFE#16 && t.ticks == 20) = true := by decide

/-- V70. -/
theorem test_rst_38H_calls_itself :
    after { start 0x0038#16 [0xFF#8] with sp := 0xFFFE#16 }
      (fun t => t.pc == 0x0038#16 && t.sp == 0xFFFC#16 && cell t 0xFFFD == 0x00#8 && cell t 0xFFFC == 0x39#8) = true := by decide

/-- V71. -/
theorem test_jp_HL_to_itself :
    after { start 0x0100#16 [0xE9#8] with h := 0x01#8, l := 0x00#8 }
      (fun t => t.pc == 0x0100#16 && t.ticks == 4) = true := by decide

/-- V72. -/
theorem test_stop_ignores_its_second_byte :
    after (start 0x0100#16 [0x10#8, 0x55#8])
      (fun t => t.pc == 0x0102#16 && t.halted) = true := by decide

/-- V73, its second step. -/
theorem test_di_clears_ime :
    after { start 0x0101#16 [0xF3#8] with ime := true }
      (fun t => !t.ime && t.pc == 0x0102#16) = true := by decide

/-- V74. -/
theorem test_invalid_D3_faults :
    after { start 0x0000#16 [0xD3#8] with a := 0x12#8, sp := 0x1234#16 }
      (fun t => t.fault == some (.invalidOpcode 0xD3#8 0x0000#16) && t.pc == 0x0000#16 && t.a == 0x12#8 && t.sp == 0x1234#16 && t.ticks == 0) = true := by decide

/-- V75. -/
theorem test_invalid_FD_faults :
    after (start 0x0100#16 [0xFD#8])
      (fun t => t.fault == some (.invalidOpcode 0xFD#8 0x0100#16) && t.pc == 0x0100#16) = true := by decide

/-- V82. -/
theorem test_reti_sets_ime :
    after { start 0x0048#16 [0xD9#8] [(0xFFFC, 0x01#8), (0xFFFD, 0x02#8)] with sp := 0xFFFC#16 }
      (fun t => t.pc == 0x0201#16 && t.sp == 0xFFFE#16 && t.ime && t.ticks == 16) = true := by decide

/-- V78, its first step. -/
theorem test_ei_sets_ime :
    after (start 0x0200#16 [0xFB#8])
      (fun t => t.ime && t.pc == 0x0201#16 && t.ticks == 4) = true := by decide

/-! The examples of the rules of files 41 to 47 (V vectors above apart). -/

/-- R120, its example. -/
theorem test_ld_A_B :
    after { start 0x0100#16 [0x78#8] with b := 0x5A#8 }
      (fun t => t.a == 0x5A#8 && t.pc == 0x0101#16) = true := by decide

/-- R121, its example. -/
theorem test_ld_A_d8 :
    after (start 0x0100#16 [0x3E#8, 0x42#8])
      (fun t => t.a == 0x42#8 && t.pc == 0x0102#16) = true := by decide

/-- R122, its example. -/
theorem test_ld_H_atHL :
    after { start 0x0100#16 [0x66#8] [(0xC000, 0x99#8)] with h := 0xC0#8, l := 0x00#8 }
      (fun t => t.pair .HL == 0x9900#16) = true := by decide

/-- R123, its example. -/
theorem test_ld_atHL_H :
    after { start 0x0100#16 [0x74#8] with h := 0xC1#8, l := 0x23#8 }
      (fun t => cell t 0xC123 == 0xC1#8) = true := by decide

/-- R124, its example. -/
theorem test_ld_atHL_d8 :
    after { start 0x0100#16 [0x36#8, 0x07#8] with h := 0xC0#8, l := 0x00#8 }
      (fun t => cell t 0xC000 == 0x07#8 && t.pc == 0x0102#16) = true := by decide

/-- R125, its example. -/
theorem test_ld_A_atBC :
    after { start 0x0100#16 [0x0A#8] [(0xC010, 0x33#8)] with b := 0xC0#8, c := 0x10#8 }
      (fun t => t.a == 0x33#8) = true := by decide

/-- R126, its example. -/
theorem test_ld_A_atDE :
    after { start 0x0100#16 [0x1A#8] [(0xD000, 0x01#8)] with d := 0xD0#8, e := 0x00#8 }
      (fun t => t.a == 0x01#8) = true := by decide

/-- R127, its example. -/
theorem test_ld_atBC_A :
    after { start 0x0100#16 [0x02#8] with b := 0xC0#8, c := 0x00#8, a := 0x12#8 }
      (fun t => cell t 0xC000 == 0x12#8) = true := by decide

/-- R128, its example. -/
theorem test_ld_atDE_A :
    after { start 0x0100#16 [0x12#8] with d := 0xC0#8, e := 0x01#8, a := 0xFF#8 }
      (fun t => cell t 0xC001 == 0xFF#8) = true := by decide

/-- R129, its example. -/
theorem test_ld_A_atA16 :
    after (start 0x0100#16 [0xFA#8, 0x00#8, 0xC0#8] [(0xC000, 0x5E#8)])
      (fun t => t.a == 0x5E#8 && t.pc == 0x0103#16) = true := by decide

/-- R130, its example. -/
theorem test_ld_atA16_A :
    after { start 0x0100#16 [0xEA#8, 0x34#8, 0x12#8] with a := 0x77#8 }
      (fun t => cell t 0x1234 == 0x77#8) = true := by decide

/-- R131, its example. -/
theorem test_ldh_A_atA8 :
    after (start 0x0100#16 [0xF0#8, 0x80#8] [(0xFF80, 0x0A#8)])
      (fun t => t.a == 0x0A#8) = true := by decide

/-- R132, its example. -/
theorem test_ldh_atA8_A :
    after { start 0x0100#16 [0xE0#8, 0x85#8] with a := 0x01#8 }
      (fun t => cell t 0xFF85 == 0x01#8) = true := by decide

/-- R133, its example. -/
theorem test_ld_A_atC :
    after { start 0x0100#16 [0xF2#8] [(0xFF44, 0x90#8)] with c := 0x44#8 }
      (fun t => t.a == 0x90#8 && t.pc == 0x0101#16) = true := by decide

/-- R134, its example. -/
theorem test_ld_atC_A :
    after { start 0x0100#16 [0xE2#8] with c := 0x80#8, a := 0x3C#8 }
      (fun t => cell t 0xFF80 == 0x3C#8) = true := by decide

/-- R135, its example. -/
theorem test_ld_atHLinc_A :
    after { start 0x0100#16 [0x22#8] with h := 0xC0#8, l := 0x00#8, a := 0x11#8 }
      (fun t => cell t 0xC000 == 0x11#8 && t.pair .HL == 0xC001#16) = true := by decide

/-- R136, its example. -/
theorem test_ld_atHLdec_A :
    after { start 0x0100#16 [0x32#8] with h := 0xDF#8, l := 0xFF#8, a := 0x00#8 }
      (fun t => cell t 0xDFFF == 0x00#8 && t.pair .HL == 0xDFFE#16) = true := by decide

/-- R137, its example. -/
theorem test_ld_A_atHLinc :
    after { start 0x0100#16 [0x2A#8] [(0xC000, 0xAB#8)] with h := 0xC0#8, l := 0x00#8 }
      (fun t => t.a == 0xAB#8 && t.pair .HL == 0xC001#16) = true := by decide

/-- R138, its example. -/
theorem test_ld_A_atHLdec :
    after { start 0x0100#16 [0x3A#8] [(0xC001, 0x10#8)] with h := 0xC0#8, l := 0x01#8 }
      (fun t => t.a == 0x10#8 && t.pair .HL == 0xC000#16) = true := by decide

/-- R150, its example. -/
theorem test_ld_HL_d16 :
    after (start 0x0100#16 [0x21#8, 0x34#8, 0x12#8])
      (fun t => t.pair .HL == 0x1234#16 && t.pc == 0x0103#16) = true := by decide

/-- R151, its example. -/
theorem test_ld_atA16_SP :
    after { start 0x0100#16 [0x08#8, 0x00#8, 0xC1#8] with sp := 0xFFF8#16 }
      (fun t => cell t 0xC100 == 0xF8#8 && cell t 0xC101 == 0xFF#8) = true := by decide

/-- R152, its example. -/
theorem test_ld_SP_HL :
    after { start 0x0100#16 [0xF9#8] with h := 0xDF#8, l := 0xF0#8 }
      (fun t => t.sp == 0xDFF0#16) = true := by decide

/-- R154, its example. -/
theorem test_push_BC :
    after { start 0x0100#16 [0xC5#8] with sp := 0xFFFE#16, b := 0x12#8, c := 0x34#8 }
      (fun t => cell t 0xFFFD == 0x12#8 && cell t 0xFFFC == 0x34#8 && t.sp == 0xFFFC#16) = true := by decide

/-- R155, its example. -/
theorem test_pop_DE :
    after { start 0x0100#16 [0xD1#8] [(0xFFFC, 0x34#8), (0xFFFD, 0x12#8)] with sp := 0xFFFC#16 }
      (fun t => t.pair .DE == 0x1234#16 && t.sp == 0xFFFE#16) = true := by decide

/-- R156, its example. -/
theorem test_pop_AF :
    after { start 0x0100#16 [0xF1#8] [(0xC000, 0xFF#8), (0xC001, 0x12#8)] with sp := 0xC000#16 }
      (fun t => t.a == 0x12#8 && t.f == 0xF0#8 && t.sp == 0xC002#16) = true := by decide

/-- R175, its example. -/
theorem test_add_A_B :
    after { start 0x0100#16 [0x80#8] with a := 0x0F#8, b := 0x01#8 }
      (fun t => t.a == 0x10#8 && t.f == 0x20#8) = true := by decide

/-- R176, its example. -/
theorem test_add_A_atHL :
    after { start 0x0100#16 [0x86#8] [(0xC000, 0x80#8)] with a := 0x80#8, h := 0xC0#8, l := 0x00#8 }
      (fun t => t.a == 0x00#8 && t.f == 0x90#8) = true := by decide

/-- R177, its example. -/
theorem test_add_A_d8 :
    after { start 0x0100#16 [0xC6#8, 0xC6#8] with a := 0x3A#8 }
      (fun t => t.a == 0x00#8 && t.f == 0xB0#8) = true := by decide

/-- R178, its example. -/
theorem test_adc_A_C :
    after { start 0x0100#16 [0x89#8] with a := 0xE1#8, c := 0x0F#8, f := 0x10#8 }
      (fun t => t.a == 0xF1#8 && t.f == 0x20#8) = true := by decide

/-- R179, its example. -/
theorem test_adc_A_atHL :
    after { start 0x0100#16 [0x8E#8] [(0xC000, 0x1E#8)] with a := 0xE1#8, h := 0xC0#8, l := 0x00#8, f := 0x10#8 }
      (fun t => t.a == 0x00#8 && t.f == 0xB0#8) = true := by decide

/-- R180, its example. -/
theorem test_adc_A_d8 :
    after { start 0x0100#16 [0xCE#8, 0x3B#8] with a := 0xE1#8, f := 0x10#8 }
      (fun t => t.a == 0x1D#8 && t.f == 0x10#8) = true := by decide

/-- R181, its example. -/
theorem test_sub_D :
    after { start 0x0100#16 [0x92#8] with a := 0x3E#8, d := 0x3E#8 }
      (fun t => t.a == 0x00#8 && t.f == 0xC0#8) = true := by decide

/-- R182, its example. -/
theorem test_sub_atHL :
    after { start 0x0100#16 [0x96#8] [(0xC000, 0x40#8)] with a := 0x3E#8, h := 0xC0#8, l := 0x00#8 }
      (fun t => t.a == 0xFE#8 && t.f == 0x50#8) = true := by decide

/-- R183, its example. -/
theorem test_sub_d8 :
    after { start 0x0100#16 [0xD6#8, 0x0F#8] with a := 0x3E#8 }
      (fun t => t.a == 0x2F#8 && t.f == 0x60#8) = true := by decide

/-- R184, its example. -/
theorem test_sbc_A_E :
    after { start 0x0100#16 [0x9B#8] with a := 0x3B#8, e := 0x2A#8, f := 0x10#8 }
      (fun t => t.a == 0x10#8 && t.f == 0x40#8) = true := by decide

/-- R185, its example. -/
theorem test_sbc_A_atHL :
    after { start 0x0100#16 [0x9E#8] [(0xC000, 0x4F#8)] with a := 0x3B#8, h := 0xC0#8, l := 0x00#8, f := 0x10#8 }
      (fun t => t.a == 0xEB#8 && t.f == 0x70#8) = true := by decide

/-- R186, its example. -/
theorem test_sbc_A_d8 :
    after { start 0x0100#16 [0xDE#8, 0x3A#8] with a := 0x3B#8, f := 0x10#8 }
      (fun t => t.a == 0x00#8 && t.f == 0xC0#8) = true := by decide

/-- R187, its example. -/
theorem test_and_L :
    after { start 0x0100#16 [0xA5#8] with a := 0x5A#8, l := 0x3F#8 }
      (fun t => t.a == 0x1A#8 && t.f == 0x20#8) = true := by decide

/-- R188, its example. -/
theorem test_and_atHL :
    after { start 0x0100#16 [0xA6#8] [(0xC000, 0x00#8)] with a := 0x5A#8, h := 0xC0#8, l := 0x00#8 }
      (fun t => t.a == 0x00#8 && t.f == 0xA0#8) = true := by decide

/-- R189, its example. -/
theorem test_and_d8 :
    after { start 0x0100#16 [0xE6#8, 0x38#8] with a := 0x5A#8 }
      (fun t => t.a == 0x18#8 && t.f == 0x20#8) = true := by decide

/-- R190, its example. -/
theorem test_xor_B :
    after { start 0x0100#16 [0xA8#8] with a := 0xFF#8, b := 0x0F#8 }
      (fun t => t.a == 0xF0#8 && t.f == 0x00#8) = true := by decide

/-- R191, its example. -/
theorem test_xor_atHL :
    after { start 0x0100#16 [0xAE#8] [(0xC000, 0x8A#8)] with a := 0xFF#8, h := 0xC0#8, l := 0x00#8 }
      (fun t => t.a == 0x75#8 && t.f == 0x00#8) = true := by decide

/-- R192, its example. -/
theorem test_xor_d8 :
    after { start 0x0100#16 [0xEE#8, 0xFF#8] with a := 0xFF#8 }
      (fun t => t.a == 0x00#8 && t.f == 0x80#8) = true := by decide

/-- R193, its example. -/
theorem test_or_H :
    after { start 0x0100#16 [0xB4#8] with a := 0x5A#8, h := 0x5A#8 }
      (fun t => t.a == 0x5A#8 && t.f == 0x00#8) = true := by decide

/-- R194, its example. -/
theorem test_or_atHL :
    after { start 0x0100#16 [0xB6#8] [(0xC000, 0x0F#8)] with a := 0x5A#8, h := 0xC0#8, l := 0x00#8 }
      (fun t => t.a == 0x5F#8 && t.f == 0x00#8) = true := by decide

/-- R195, its example. -/
theorem test_or_d8 :
    after { start 0x0100#16 [0xF6#8, 0x00#8] with a := 0x00#8 }
      (fun t => t.a == 0x00#8 && t.f == 0x80#8) = true := by decide

/-- R196, its example. -/
theorem test_cp_E :
    after { start 0x0100#16 [0xBB#8] with a := 0x3C#8, e := 0x2F#8 }
      (fun t => t.a == 0x3C#8 && t.f == 0x60#8) = true := by decide

/-- R197, its example. -/
theorem test_cp_atHL :
    after { start 0x0100#16 [0xBE#8] [(0xC000, 0x40#8)] with a := 0x3C#8, h := 0xC0#8, l := 0x00#8 }
      (fun t => t.a == 0x3C#8 && t.f == 0x50#8) = true := by decide

/-- R198, its example. -/
theorem test_cp_d8 :
    after { start 0x0100#16 [0xFE#8, 0x3C#8] with a := 0x3C#8 }
      (fun t => t.a == 0x3C#8 && t.f == 0xC0#8) = true := by decide

/-- R200, its example. -/
theorem test_inc_atHL :
    after { start 0x0100#16 [0x34#8] [(0xC000, 0x50#8)] with h := 0xC0#8, l := 0x00#8 }
      (fun t => cell t 0xC000 == 0x51#8 && t.f == 0x00#8) = true := by decide

/-- R201, its example. -/
theorem test_dec_B :
    after { start 0x0100#16 [0x05#8] with b := 0x01#8 }
      (fun t => t.b == 0x00#8 && t.f == 0xC0#8) = true := by decide

/-- R202, its example. -/
theorem test_dec_atHL :
    after { start 0x0100#16 [0x35#8] [(0xC000, 0x00#8)] with h := 0xC0#8, l := 0x00#8 }
      (fun t => cell t 0xC000 == 0xFF#8 && t.f == 0x60#8) = true := by decide

/-- R206, its example. -/
theorem test_ccf_clears :
    after { start 0x0100#16 [0x3F#8] with f := 0x70#8 }
      (fun t => t.f == 0x00#8) = true := by decide

/-- R204, its example. -/
theorem test_cpl_of_35 :
    after { start 0x0100#16 [0x2F#8] with a := 0x35#8 }
      (fun t => t.a == 0xCA#8 && t.f == 0x60#8) = true := by decide

/-- R205, its example. -/
theorem test_scf_keeps_zero :
    after { start 0x0100#16 [0x37#8] with f := 0x80#8 }
      (fun t => t.f == 0x90#8) = true := by decide

/-- R220, its example. -/
theorem test_add_HL_BC :
    after { start 0x0100#16 [0x09#8] with h := 0x8A#8, l := 0x23#8, b := 0x06#8, c := 0x05#8 }
      (fun t => t.pair .HL == 0x9028#16 && t.f == 0x20#8) = true := by decide

/-- R221, its example. -/
theorem test_inc_DE :
    after { start 0x0100#16 [0x13#8] with d := 0x00#8, e := 0xFF#8 }
      (fun t => t.pair .DE == 0x0100#16) = true := by decide

/-- R222, its example. -/
theorem test_dec_BC :
    after { start 0x0100#16 [0x0B#8] with b := 0x01#8, c := 0x00#8 }
      (fun t => t.pair .BC == 0x00FF#16) = true := by decide

/-- R232, its example. -/
theorem test_rlca :
    after { start 0x0100#16 [0x07#8] with a := 0x85#8 }
      (fun t => t.a == 0x0B#8 && t.f == 0x10#8) = true := by decide

/-- R233, its example. -/
theorem test_rrca :
    after { start 0x0100#16 [0x0F#8] with a := 0x3B#8 }
      (fun t => t.a == 0x9D#8 && t.f == 0x10#8) = true := by decide

/-- R234, its example. -/
theorem test_rla_out_and_in :
    after { start 0x0100#16 [0x17#8] with a := 0x95#8, f := 0x10#8 }
      (fun t => t.a == 0x2B#8 && t.f == 0x10#8) = true := by decide

/-- R235, its example. -/
theorem test_rra :
    after { start 0x0100#16 [0x1F#8] with a := 0x81#8 }
      (fun t => t.a == 0x40#8 && t.f == 0x10#8) = true := by decide

/-- R236, its example. -/
theorem test_rlc_B :
    after { start 0x0100#16 [0xCB#8, 0x00#8] with b := 0x85#8 }
      (fun t => t.b == 0x0B#8 && t.f == 0x10#8) = true := by decide

/-- R237, its example. -/
theorem test_rlc_atHL :
    after { start 0x0100#16 [0xCB#8, 0x06#8] [(0xC000, 0x00#8)] with h := 0xC0#8, l := 0x00#8 }
      (fun t => cell t 0xC000 == 0x00#8 && t.f == 0x80#8 && t.ticks == 16) = true := by decide

/-- R238, its example. -/
theorem test_rrc_C :
    after { start 0x0100#16 [0xCB#8, 0x09#8] with c := 0x01#8 }
      (fun t => t.c == 0x80#8 && t.f == 0x10#8) = true := by decide

/-- R239, its example. -/
theorem test_rrc_atHL :
    after { start 0x0100#16 [0xCB#8, 0x0E#8] [(0xC000, 0x02#8)] with h := 0xC0#8, l := 0x00#8 }
      (fun t => cell t 0xC000 == 0x01#8 && t.f == 0x00#8) = true := by decide

/-- R240, its example. -/
theorem test_rl_L :
    after { start 0x0100#16 [0xCB#8, 0x15#8] with l := 0x80#8 }
      (fun t => t.l == 0x00#8 && t.f == 0x90#8) = true := by decide

/-- R241, its example. -/
theorem test_rl_atHL :
    after { start 0x0100#16 [0xCB#8, 0x16#8] [(0xC000, 0x11#8)] with h := 0xC0#8, l := 0x00#8 }
      (fun t => cell t 0xC000 == 0x22#8 && t.f == 0x00#8) = true := by decide

/-- R243, its example. -/
theorem test_rr_atHL :
    after { start 0x0100#16 [0xCB#8, 0x1E#8] [(0xC000, 0x8A#8)] with h := 0xC0#8, l := 0x00#8 }
      (fun t => cell t 0xC000 == 0x45#8 && t.f == 0x00#8) = true := by decide

/-- R244, its example. -/
theorem test_sla_D :
    after { start 0x0100#16 [0xCB#8, 0x22#8] with d := 0x80#8 }
      (fun t => t.d == 0x00#8 && t.f == 0x90#8) = true := by decide

/-- R245, its example. -/
theorem test_sla_atHL :
    after { start 0x0100#16 [0xCB#8, 0x26#8] [(0xC000, 0xFF#8)] with h := 0xC0#8, l := 0x00#8 }
      (fun t => cell t 0xC000 == 0xFE#8 && t.f == 0x10#8) = true := by decide

/-- R246, its example. -/
theorem test_sra_A :
    after { start 0x0100#16 [0xCB#8, 0x2F#8] with a := 0x8A#8 }
      (fun t => t.a == 0xC5#8 && t.f == 0x00#8) = true := by decide

/-- R247, its example. -/
theorem test_sra_atHL :
    after { start 0x0100#16 [0xCB#8, 0x2E#8] [(0xC000, 0x01#8)] with h := 0xC0#8, l := 0x00#8 }
      (fun t => cell t 0xC000 == 0x00#8 && t.f == 0x90#8) = true := by decide

/-- R248, its example. -/
theorem test_swap_A :
    after { start 0x0100#16 [0xCB#8, 0x37#8] with a := 0xF0#8 }
      (fun t => t.a == 0x0F#8 && t.f == 0x00#8) = true := by decide

/-- R249, its example. -/
theorem test_swap_atHL :
    after { start 0x0100#16 [0xCB#8, 0x36#8] [(0xC000, 0x00#8)] with h := 0xC0#8, l := 0x00#8 }
      (fun t => cell t 0xC000 == 0x00#8 && t.f == 0x80#8) = true := by decide

/-- R250, its example. -/
theorem test_srl_A :
    after { start 0x0100#16 [0xCB#8, 0x3F#8] with a := 0xFF#8 }
      (fun t => t.a == 0x7F#8 && t.f == 0x10#8) = true := by decide

/-- R251, its example. -/
theorem test_srl_atHL :
    after { start 0x0100#16 [0xCB#8, 0x3E#8] [(0xC000, 0x80#8)] with h := 0xC0#8, l := 0x00#8 }
      (fun t => cell t 0xC000 == 0x40#8 && t.f == 0x00#8) = true := by decide

/-- R252, its example. -/
theorem test_bit_7_H :
    after { start 0x0100#16 [0xCB#8, 0x7C#8] with h := 0x80#8 }
      (fun t => t.h == 0x80#8 && t.f == 0x20#8) = true := by decide

/-- R253, its example. -/
theorem test_bit_4_atHL :
    after { start 0x0100#16 [0xCB#8, 0x66#8] [(0xC000, 0xEF#8)] with h := 0xC0#8, l := 0x00#8 }
      (fun t => t.f == 0xA0#8 && cell t 0xC000 == 0xEF#8) = true := by decide

/-- R254, its example. -/
theorem test_res_7_A :
    after { start 0x0100#16 [0xCB#8, 0xBF#8] with a := 0x80#8 }
      (fun t => t.a == 0x00#8 && t.f == 0x00#8) = true := by decide

/-- R255, its example. -/
theorem test_res_0_atHL :
    after { start 0x0100#16 [0xCB#8, 0x86#8] [(0xC000, 0xFF#8)] with h := 0xC0#8, l := 0x00#8 }
      (fun t => cell t 0xC000 == 0xFE#8) = true := by decide

/-- R256, its example. -/
theorem test_set_3_B :
    after { start 0x0100#16 [0xCB#8, 0xD8#8] with b := 0x00#8 }
      (fun t => t.b == 0x08#8) = true := by decide

/-- R257, its example. -/
theorem test_set_3_atHL :
    after { start 0x0100#16 [0xCB#8, 0xDE#8] [(0xC000, 0x00#8)] with h := 0xC0#8, l := 0x00#8 }
      (fun t => cell t 0xC000 == 0x08#8 && t.ticks == 16) = true := by decide

/-- R271, its example. -/
theorem test_jp_a16 :
    after (start 0x0100#16 [0xC3#8, 0x50#8, 0x01#8])
      (fun t => t.pc == 0x0150#16) = true := by decide

/-- R272, its example. -/
theorem test_jp_Z_not_taken :
    after (start 0x0150#16 [0xCA#8, 0x00#8, 0x20#8])
      (fun t => t.pc == 0x0153#16 && t.ticks == 12) = true := by decide

/-- R273, its example. -/
theorem test_jp_HL :
    after { start 0x0100#16 [0xE9#8] with h := 0xC0#8, l := 0x00#8 }
      (fun t => t.pc == 0xC000#16) = true := by decide

/-- R275, its example. -/
theorem test_jr_NZ_taken_backward :
    after (start 0x0200#16 [0x20#8, 0xFB#8])
      (fun t => t.pc == 0x01FD#16 && t.ticks == 12) = true := by decide

/-- R277, its example. -/
theorem test_call_C_taken :
    after { start 0x0150#16 [0xDC#8, 0x00#8, 0x40#8] with f := 0x10#8, sp := 0xFFFE#16 }
      (fun t => cell t 0xFFFD == 0x01#8 && cell t 0xFFFC == 0x53#8 && t.sp == 0xFFFC#16 && t.pc == 0x4000#16 && t.ticks == 24) = true := by decide

/-- R278, its example. -/
theorem test_ret :
    after { start 0x0100#16 [0xC9#8] [(0xFFFC, 0x53#8), (0xFFFD, 0x01#8)] with sp := 0xFFFC#16 }
      (fun t => t.pc == 0x0153#16 && t.sp == 0xFFFE#16) = true := by decide

/-- R279, its example. -/
theorem test_ret_NZ_not_taken :
    after { start 0x0100#16 [0xC0#8] with f := 0x80#8 }
      (fun t => t.pc == 0x0101#16 && t.ticks == 8) = true := by decide

/-- R281, its example. -/
theorem test_rst_28H :
    after { start 0x1234#16 [0xEF#8] with sp := 0xD000#16 }
      (fun t => cell t 0xCFFF == 0x12#8 && cell t 0xCFFE == 0x35#8 && t.sp == 0xCFFE#16 && t.pc == 0x0028#16) = true := by decide

/-- R291, its example. -/
theorem test_halt :
    after (start 0x0200#16 [0x76#8])
      (fun t => t.pc == 0x0201#16 && t.halted && t.ticks == 4) = true := by decide

/-- R292, its example. -/
theorem test_stop :
    after (start 0x0150#16 [0x10#8, 0x00#8])
      (fun t => t.pc == 0x0152#16 && t.halted && t.ticks == 4) = true := by decide

/-- R296, its example. -/
theorem test_invalid_DD_faults :
    after (start 0x0300#16 [0xDD#8])
      (fun t => t.fault == some (.invalidOpcode 0xDD#8 0x0300#16) && t.pc == 0x0300#16 && t.ticks == 0) = true := by decide

/-! The collaborator, the halted core and the faulted core. -/

/-- V78, its second part: Vector(0x0048) after EI at 0x0200. -/
theorem test_vector_after_ei :
    after { start 0x0201#16 [] with ime := true, ticks := 4, schedule := .first (.vector 0x0048#16) .quiet }
      (fun t => !t.ime && t.pc == 0x0048#16 && t.sp == 0xFFFC#16 && cell t 0xFFFD == 0x02#8 && cell t 0xFFFC == 0x01#8 &&
        t.ticks == 24) = true := by decide

/-- V79, its last part: Vector(0x0040) after HALT and one idle step. -/
theorem test_vector_wakes_a_halted_core :
    after { start 0x0201#16 [] with ime := true, halted := true, ticks := 8, schedule := .first (.vector 0x0040#16) .quiet }
      (fun t => !t.halted && !t.ime && t.pc == 0x0040#16 && cell t 0xFFFD == 0x02#8 && cell t 0xFFFC == 0x01#8 &&
        t.ticks == 28) = true := by decide

/-- V79, its middle part: one idle step. -/
theorem test_idle_step :
    after { start 0x0201#16 [] with ime := true, halted := true, ticks := 4 }
      (fun t => t.halted && t.ime && t.pc == 0x0201#16 && t.ticks == 8) = true := by decide

/-- V80, its middle part: Wake with IME = 0 pushes nothing. -/
theorem test_wake_without_ime :
    after { start 0x0201#16 [0x04#8] with halted := true, ticks := 4, schedule := .first .wake .quiet }
      (fun t => !t.halted && !t.ime && t.pc == 0x0201#16 && t.sp == 0xFFFE#16 && t.ticks == 4) = true := by decide

/-- V81, its second part: after DI no Vector is enabled, so the core takes its step. -/
theorem test_vector_not_enabled_without_ime :
    after { start 0x0100#16 [0x00#8] with schedule := .first (.vector 0x0040#16) .quiet }
      (fun t => t.pc == 0x0101#16 && t.sp == 0xFFFE#16 && t.schedule == .quiet) = true := by decide

/-- R320, R311: a collaborator that asks for Vector(0x0040) at every boundary, without end, dispatches as soon as IME = 1 ... -/
theorem test_endless_vector_dispatches :
    after { start 0x0100#16 [] with ime := true, schedule := .again (.vector 0x0040#16) [] }
      (fun t => t.pc == 0x0040#16 && !t.ime && t.sp == 0xFFFC#16 && t.schedule == .again (.vector 0x0040#16) []) = true := by
  decide

/-- ... and when the handler is RETI, which sets IME and returns, the next dispatch is enabled again. -/
theorem test_endless_vector_returns :
    after { start 0x0040#16 [0xD9#8] [(0xFFFC, 0x00#8), (0xFFFD, 0x01#8)] with
        sp := 0xFFFC#16, schedule := .again (.vector 0x0040#16) [] }
      (fun t => t.pc == 0x0100#16 && t.ime && t.sp == 0xFFFE#16 && t.schedule == .again (.vector 0x0040#16) [] &&
        t.vectorEnabled 0x0040#16) = true := by
  decide

/-- R114: a faulted core takes no step. -/
theorem test_faulted_core_stops :
    step { start 0x0100#16 [0x00#8] with fault := some (.invalidOpcode 0xD3#8 0x0100#16) } =
      .fault (.invalidOpcode 0xD3#8 0x0100#16) := by rfl

/-- R340: the reset state under PowerOn takes the draws, with F's low bits cleared. -/
theorem test_reset_power_on :
    (State.resetOf { Launch.default with resetProfile := .powerOn }
      { a := 1, f := 0xFF, b := 2, c := 3, d := 4, e := 5, h := 6, l := 7, sp := 0xABCD } [] .quiet).f = 0xF0#8 := by decide

/-- R36, R89: the snapshot names the instruction that stands at pc. -/
theorem test_mnemonic_spelling :
    mnemonic .ld_A_atHLinc = "LD A,(HL+)" ∧ mnemonic (.jr_NZ_r8 0xFE#8) = "JR NZ,r8" ∧ mnemonic .invalid_D3 = "INVALID" := by
  decide

/-- R361: the boundary with pc = END is the normal end of a run. -/
theorem test_normal_end :
    State.normalEnd { start 0x0108#16 [] with launch := { Launch.default with endAddress := some 0x0108#16 } } = true := by
  decide

/-! ### Witnesses: for every statement with hypotheses, a state and operands that meet all of them -/

/-- A state with bytes in memory, HL and SP at the edges of the address space, and PC before the wrap. -/
def stored : State :=
  { start 0xFFFE#16 [0x12#8, 0x34#8] [(0xC000, 0x56#8), (0xFFFF, 0x78#8)] with
    h := 0xFF#8, l := 0xFF#8, sp := 0x0001#16, f := 0x90#8 }

/-- The same with a volatile range that takes in the written cells' neighbours (R59). -/
def partlyVolatile : State :=
  { stored with launch := { Launch.default with memoryOracle := .volatile [(0x8000, 0x9FFF)] } }


/-- The hypotheses of `Obligations.ResetGivesTheProfileValues`, both profiles. -/
theorem test_witness_ResetGivesTheProfileValues :
    Launch.default.resetProfile = .postBootDMG ∧
      (State.resetOf { Launch.default with resetProfile := .powerOn }
        { a := 1, f := 0x5F, b := 2, c := 3, d := 4, e := 5, h := 6, l := 7, sp := 8 } [] (.free 0)).launch.resetProfile = .powerOn := by decide

/-- The hypotheses of `Obligations.PlainCellReadsItsLastWrite`, at both sides of each end of a volatile range. -/
theorem test_witness_PlainCellReadsItsLastWrite :
    partlyVolatile.mem.wf = true ∧ partlyVolatile.isVolatile 0x7FFF#16 = false ∧
      partlyVolatile.isVolatile 0xA000#16 = false ∧ partlyVolatile.isVolatile 0x8000#16 = true ∧
      partlyVolatile.isVolatile 0x9FFF#16 = true := by decide

/-- The hypotheses of `Obligations.StoreRegisterAndImmediateAtHL`, with every cell plain and with some volatile. -/
theorem test_witness_StoreRegisterAndImmediateAtHL :
    stored.mem.wf = true ∧ partlyVolatile.mem.wf = true := by decide

/-- The hypotheses of `Obligations.StoreAccumulatorToMemory`, with every cell plain and with some volatile. -/
theorem test_witness_StoreAccumulatorToMemory :
    stored.mem.wf = true ∧ partlyVolatile.mem.wf = true := by decide

/-- The hypotheses of `Obligations.AutoSteppingLoadsAndStoresStepHLOnce`, with every cell plain and with some volatile. -/
theorem test_witness_AutoSteppingLoadsAndStoresStepHLOnce :
    stored.mem.wf = true ∧ partlyVolatile.mem.wf = true := by decide

/-- The hypotheses of `Obligations.StoreStackPointerLittleEndian`, with every cell plain and with some volatile. -/
theorem test_witness_StoreStackPointerLittleEndian :
    stored.mem.wf = true ∧ partlyVolatile.mem.wf = true := by decide

/-- The hypotheses of `Obligations.PushStoresHighThenLow`, with every cell plain and with some volatile. -/
theorem test_witness_PushStoresHighThenLow :
    stored.mem.wf = true ∧ partlyVolatile.mem.wf = true := by decide

/-- The hypotheses of `Obligations.IncrementAndDecrementAtHL`, with every cell plain and with some volatile. -/
theorem test_witness_IncrementAndDecrementAtHL :
    stored.mem.wf = true ∧ partlyVolatile.mem.wf = true := by decide

/-- The hypotheses of `Obligations.RotateShiftSwapAtHL`, with every cell plain and with some volatile. -/
theorem test_witness_RotateShiftSwapAtHL :
    stored.mem.wf = true ∧ partlyVolatile.mem.wf = true := by decide

/-- The hypotheses of `Obligations.ResetAndSetBitAtHL`, with every cell plain and with some volatile. -/
theorem test_witness_ResetAndSetBitAtHL :
    stored.mem.wf = true ∧ partlyVolatile.mem.wf = true := by decide

/-- The hypotheses of `Obligations.RestartPushesAndJumpsToItsVector`, with every cell plain and with some volatile. -/
theorem test_witness_RestartPushesAndJumpsToItsVector :
    stored.mem.wf = true ∧ partlyVolatile.mem.wf = true := by decide

/-- The hypotheses of `Obligations.CallsPushReturnAddressAndJump`, every condition holding and failing. -/
theorem test_witness_CallsPushReturnAddressAndJump :
    stored.mem.wf = true ∧ condition .Z stored = true ∧ condition .C stored = true ∧
      condition .NZ stored = false ∧ condition .NC stored = false ∧ condition .NZ (start 0 []) = true ∧
      condition .NC (start 0 []) = true ∧ condition .Z (start 0 []) = false ∧ condition .C (start 0 []) = false := by decide

/-- The hypotheses of `Obligations.PushThenPopRestoresThePair`, across the wrap. -/
theorem test_witness_PushThenPopRestoresThePair :
    stored.mem.wf = true ∧ stored.isVolatile (stored.sp - 1) = false ∧ stored.isVolatile (stored.sp - 2) = false ∧
      partlyVolatile.isVolatile (partlyVolatile.sp - 1) = false ∧
      partlyVolatile.isVolatile (partlyVolatile.sp - 2) = false := by decide

/-- The hypotheses of `Obligations.InterruptDispatchThenRetiResumes`, across the wrap. -/
theorem test_witness_InterruptDispatchThenRetiResumes :
    stored.mem.wf = true ∧ stored.isVolatile (stored.sp - 1) = false ∧ stored.isVolatile (stored.sp - 2) = false ∧
      partlyVolatile.isVolatile (partlyVolatile.sp - 1) = false ∧
      partlyVolatile.isVolatile (partlyVolatile.sp - 2) = false := by decide

/-- The hypotheses of `Obligations.AdcSbcModesDifferOnlyInHalfCarry`, both clauses at their edge. -/
theorem test_witness_AdcSbcModesDifferOnlyInHalfCarry :
    (adc8 .carryIn 0x00#8 0x0F#8 true, adc8 .fold 0x00#8 0x0F#8 true) ∈
        [(adc8 .carryIn 0x00#8 0x0F#8 true, adc8 .fold 0x00#8 0x0F#8 true),
          (sbc8 .carryIn 0x00#8 0x0F#8 true, sbc8 .fold 0x00#8 0x0F#8 true)] ∧
      (0x0F#8).toNat % 16 = 15 ∧ ¬((0x0E#8).toNat % 16 = 15 ∧ true = true) ∧ ¬((0x0F#8).toNat % 16 = 15 ∧ false = true) := by decide

/-- The hypotheses of `Obligations.DecimalArithmeticIsCorrect`, at both ends of the range. -/
theorem test_witness_DecimalArithmeticIsCorrect :
    (99 < 100 ∧ 0 < 100) ∧ ({ stored with a := 0x99#8 } : State).a = bcd 99 ∧ ({ stored with a := 0x00#8 } : State).a = bcd 0 := by decide

/-- The hypotheses of `Obligations.AccumulatorRotatesForceZeroFlag`. -/
theorem test_witness_AccumulatorRotatesForceZeroFlag :
    (Instr.rla, RotOp.rl) ∈ [(Instr.rlca, RotOp.rlc), (.rrca, .rrc), (.rla, .rl), (.rra, .rr)] := by decide

/-- The hypotheses of `Obligations.NopInterruptEnableAndHaltInstructions`. -/
theorem test_witness_NopInterruptEnableAndHaltInstructions :
    (∃ t, exec .di { stored with ime := true } = .next t) ∧
      (∃ t, exec .ei stored = .next t) ∧ stored.fault = none ∧ 0x0040#16 ∈ stored.launch.intVectors ∧
      0x0060#16 ∈ stored.launch.intVectors := ⟨⟨_, rfl⟩, ⟨_, rfl⟩, by decide⟩

/-- The hypotheses of `Obligations.InvalidOpcodeFaultsPrecisely`. -/
theorem test_witness_InvalidOpcodeFaultsPrecisely :
    (Instr.invalid_D3, 0xD3#8) ∈ Instr.invalidOpcodes ∧ (Instr.invalid_FD, 0xFD#8) ∈ Instr.invalidOpcodes := by decide

/-- A state with JP a16 at PC, across the wrap, and a given schedule (R320). -/
def running (sch : Schedule) : State := { start 0xFFFF#16 [0xC3#8, 0x50#8, 0x01#8] with schedule := sch }

/-- A halted state with bytes in memory, and a given IME and schedule (R320). -/
def sleeping (ime : Bool) (sch : Schedule) : State := { stored with halted := true, ime := ime, schedule := sch }

/-- LD (HL),A at PC, with HL just after it. -/
def patching : State := { start 0xFFFE#16 [0x77#8] with h := 0xFF#8, l := 0xFF#8 }

/-- The hypotheses of `Obligations.StepRunsTheDecodedInstruction`, across the wrap, for a quiet schedule and for each move that gives way. -/
theorem test_witness_StepRunsTheDecodedInstruction :
    ∀ sch ∈ [Schedule.quiet, .first .pass .quiet, .first .wake .quiet, .again (.vector 0x0040#16) []],
      (running sch).fault = none ∧ (running sch).halted = false ∧
      decode [(running sch).memRead .opcode (running sch).pc, (running sch).memRead .imm1 ((running sch).pc + 1),
        (running sch).memRead .imm2 ((running sch).pc + 2)] = .ok (.jp_a16 0x0150#16) [] ∧
      (running sch).schedule.head ∈ [CollaboratorMove.pass, .wake, .vector 0x0040#16] ∧ (running sch).ime = false := by decide

/-- The hypotheses of `Obligations.HaltedCoreIdlesForever`. -/
theorem test_witness_HaltedCoreIdlesForever :
    (sleeping true .quiet).fault = none ∧ (sleeping true .quiet).halted = true ∧ (sleeping true .quiet).schedule = .quiet := by decide

/-- The hypotheses of `Obligations.VectorDispatchesWhenEnabled`, every clause, each on one state. -/
theorem test_witness_VectorDispatchesWhenEnabled :
    ((sleeping true (.first (.vector 0x0040#16) .quiet)).mem.wf = true ∧ (sleeping true (.first (.vector 0x0040#16) .quiet)).fault = none ∧
        (sleeping true (.first (.vector 0x0040#16) .quiet)).schedule.head = .vector 0x0040#16 ∧ (sleeping true (.first (.vector 0x0040#16) .quiet)).ime = true ∧
        0x0040#16 ∈ (sleeping true (.first (.vector 0x0040#16) .quiet)).launch.intVectors) ∧
      ((sleeping true (.again (.vector 0x0060#16) [])).mem.wf = true ∧ (sleeping true (.again (.vector 0x0060#16) [])).fault = none ∧
        (sleeping true (.again (.vector 0x0060#16) [])).schedule.head = .vector 0x0060#16 ∧ (sleeping true (.again (.vector 0x0060#16) [])).ime = true ∧
        0x0060#16 ∈ (sleeping true (.again (.vector 0x0060#16) [])).launch.intVectors) ∧
      ((sleeping false (.first (.vector 0x0040#16) .quiet)).mem.wf = true ∧ (sleeping false (.first (.vector 0x0040#16) .quiet)).fault = none ∧
        (sleeping false (.first (.vector 0x0040#16) .quiet)).schedule.head = .vector 0x0040#16 ∧ (sleeping false (.first (.vector 0x0040#16) .quiet)).ime = false) ∧
      ((sleeping true (.first (.vector 0x0068#16) .quiet)).mem.wf = true ∧ (sleeping true (.first (.vector 0x0068#16) .quiet)).fault = none ∧
        (sleeping true (.first (.vector 0x0068#16) .quiet)).schedule.head = .vector 0x0068#16 ∧ 0x0068#16 ∉ (sleeping true (.first (.vector 0x0068#16) .quiet)).launch.intVectors) := by
  refine ⟨?_, ?_, ?_, ?_⟩ <;> decide

/-- The hypotheses of `Obligations.WakeLeavesHaltedOnly`, with one wake and with wakes without end. -/
theorem test_witness_WakeLeavesHaltedOnly :
    ∀ s ∈ [sleeping false (.first .wake .quiet), sleeping true (.again .wake [])],
      s.fault = none ∧ s.halted = true ∧ s.schedule.head = .wake := by decide

/-- The hypotheses of `Obligations.StoredByteIsFetchedNext`. -/
theorem test_witness_StoredByteIsFetchedNext :
    patching.mem.wf = true ∧ patching.launch.memoryOracle = .flat ∧ patching.pair .HL = patching.pc + 1 := by decide

/-- The hypotheses of `Obligations.EveryInstructionFollowsItsDescriptor`, a taken, a sequential and a failing branch. -/
theorem test_witness_EveryInstructionFollowsItsDescriptor :
    (descriptor .jp_HL = some (primaryDesc 0xE9 1 4 gxxxx) ∧ ∃ t, exec .jp_HL stored = .next t) ∧
      (descriptor .set_7_A = some (cbDesc 0xFF 8 gxxxx) ∧ ∃ t, exec .set_7_A stored = .next t) ∧
      (descriptor (.jr_NZ_r8 0x80#8) = some (branchDesc 0x20 2 12 8) ∧ ∃ t, exec (.jr_NZ_r8 0x80#8) stored = .next t) := ⟨⟨rfl, _, rfl⟩, ⟨by decide, _, rfl⟩, ⟨rfl, _, rfl⟩⟩

/-- The hypotheses of `Obligations.OnlyInterruptControlChangesImeAndHalted` and of each clause. -/
theorem test_witness_OnlyInterruptControlChangesImeAndHalted :
    (∃ t, exec .ei stored = .next t ∧ t.ime ≠ stored.ime) ∧
      (∃ t, exec .halt stored = .next t ∧ t.halted ≠ stored.halted) ∧
      (∃ t, exec (.stop 0x55#8) stored = .next t ∧ t.halted ≠ stored.halted) := ⟨⟨_, rfl, by decide⟩, ⟨_, rfl, by decide⟩, ⟨_, rfl, by decide⟩⟩

/-- The hypotheses of `Obligations.EveryStepKeepsTheInvariant`, a running, a halted and a faulting step. -/
theorem test_witness_EveryStepKeepsTheInvariant :
    (stored.inv = true ∧ ∃ t, step stored = .next t) ∧
      (({ stored with halted := true } : State).inv = true ∧ ∃ t, step { stored with halted := true } = .next t) ∧
      ((start 0x0100#16 [0xD3#8]).inv = true ∧ ∃ t, step (start 0x0100#16 [0xD3#8]) = .next t ∧ t.fault.isSome = true) := ⟨⟨by decide, _, rfl⟩, ⟨by decide, _, rfl⟩, ⟨by decide, _, rfl, by decide⟩⟩

/-- The hypotheses of `Obligations.TimingInfluencesOnlyTicks`, two states that differ in timing, and both clauses. -/
theorem test_witness_TimingInfluencesOnlyTicks :
    State.withoutTiming { stored with ticks := 7 } =
        State.withoutTiming { stored with launch := { Launch.default with cycles := [(0, ⟨9, 9⟩)], haltIdleTicks := 1 } } ∧
      (∃ t, step { stored with ticks := 7 } = .next t) ∧
      step { stored with fault := some .operandRangeViolation } = .fault .operandRangeViolation := ⟨by decide, ⟨_, rfl⟩, rfl⟩

/-- The hypotheses of `Obligations.DecodingUndoesEncoding`, one of each length. -/
theorem test_witness_DecodingUndoesEncoding :
    (Instr.jp_a16 0xFFFF#16).wellFormed = true ∧ Instr.set_7_A.wellFormed = true ∧ (Instr.ld_A_d8 0x00#8).wellFormed = true := by decide

/-- The hypotheses of `Obligations.EncodingUndoesDecoding`, one of each length. -/
theorem test_witness_EncodingUndoesDecoding :
    decode [0xC3#8, 0xFF#8, 0xFF#8, 0x00#8] = .ok (.jp_a16 0xFFFF#16) [0x00#8] ∧ decode [0xCB#8, 0xFF#8] = .ok .set_7_A [] ∧
      decode [0xD3#8] = .ok .invalid_D3 [] := by decide


end Sys2Proof.Tests
end

section
/-! The register file and the flag byte (10_state.md R21, R23, R26): a word by its halves, a register or a pair read after
a write, and four flags packed into F and read back. -/

namespace Sys2Proof.Machine

open Sys2Proof.Statements

/-! ### A word and its halves (R10, R21) -/

theorem toNat_cat16 (h l : Byte) : (cat16 h l).toNat = h.toNat * 256 + l.toNat := by
  rw [cat16, BitVec.toNat_append, ← Nat.shiftLeft_add_eq_or_of_lt l.isLt, Nat.shiftLeft_eq]

theorem hi8_eq_byte (v : Word) : hi8 v = byte (v.toNat / 256) := by
  rw [hi8, byte, BitVec.extractLsb', Nat.shiftRight_eq_div_pow]

theorem lo8_eq_byte (v : Word) : lo8 v = byte v.toNat := rfl

@[simp] theorem cat16_hi8_lo8 (v : Word) : cat16 (hi8 v) (lo8 v) = v := by
  apply BitVec.eq_of_toNat_eq
  simp only [toNat_cat16, hi8_eq_byte, lo8_eq_byte, byte, BitVec.toNat_ofNat]
  omega

/-! ### A read of the register file after a write (R23) -/

@[simp] theorem State.pair_setPair_same (s : State) (p : Pair) (v : Word) : (s.setPair p v).pair p = v := by
  cases p with
  | SP => rfl
  | BC | DE | HL => exact cat16_hi8_lo8 v

theorem State.reg8_setReg8 (s : State) (r r' : Reg8) (x : Byte) :
    (s.setReg8 r x).reg8 r' = if r' = r then x else s.reg8 r' := by
  cases r <;> cases r' <;> rfl

/-! ### The flags in F (R26) -/

/-- A claim about every `Flags` is one about sixteen values, which `decide` can go through. -/
theorem Flags.forall_iff {P : Flags → Prop} : (∀ p, P p) ↔ ∀ z n h c, P ⟨z, n, h, c⟩ :=
  ⟨fun hP z n h c => hP ⟨z, n, h, c⟩, fun hP ⟨z, n, h, c⟩ => hP z n h c⟩

theorem Flags.toByte_eq_flagByte (p : Flags) : p.toByte = flagByte p.z p.n p.h p.c := by
  revert p
  exact Flags.forall_iff.2 (by decide)

theorem Flags.toByte_and_low (p : Flags) : p.toByte &&& 0x0F#8 = 0#8 := by
  revert p
  exact Flags.forall_iff.2 (by decide)

@[simp] theorem Flags.ofByte_toByte (p : Flags) : Flags.ofByte p.toByte = p := by
  revert p
  exact Flags.forall_iff.2 (by decide)

/-! ### The statements -/

/-- Settles O1: a pair reads as its halves' sum, its write is one byte to each half, and a register read sees the last
write to that register alone. -/
theorem pairViewsAliasTheirHalves : Obligations.PairViewsAliasTheirHalves := by
  intro s v r r' x
  refine ⟨toNat_cat16 s.b s.c, toNat_cat16 s.d s.e, toNat_cat16 s.h s.l, ?_, ?_, ?_,
    fun p => s.pair_setPair_same p v, s.reg8_setReg8 r r' x⟩
  · rw [State.setPair_BC, hi8_eq_byte, lo8_eq_byte]
  · rw [State.setPair_DE, hi8_eq_byte, lo8_eq_byte]
  · rw [State.setPair_HL, hi8_eq_byte, lo8_eq_byte]

/-- Settles O2: the packing is the sum of powers of two, clears the low nibble and loses no flag. -/
theorem flagByteHoldsFlagsInItsHighBits : Obligations.FlagByteHoldsFlagsInItsHighBits :=
  fun p => ⟨p.toByte_eq_flagByte, p.toByte_and_low, p.ofByte_toByte⟩

end Sys2Proof.Machine
end

section
/-! The halted core (40_execution_engine.md R108): one idle step, and a run of them as one move of the clock. -/

namespace Sys2Proof.Machine

open Sys2Proof.Statements

/-! ### One step -/

theorem coreStep_of_halted {s : State} (h : s.halted = true) : coreStep s = .next s.idle :=
  if_pos h

/-- With a quiet schedule no Vector and no Wake can end the halt. -/
theorem step_of_halted_quiet {s : State} (hf : s.fault = none) (hh : s.halted = true) (hq : s.schedule = .quiet) :
    step s = .next s.idle := by
  rw [step_eq_coreStep hf hq, coreStep_of_halted hh]

/-! ### A run -/

theorem run_succ_of_step_eq_next {s t : State} (h : step s = .next t) (n : Nat) :
    Host.Core.run Sys2Proof.core (n + 1) s = Host.Core.run Sys2Proof.core n t := by
  have hstep : Sys2Proof.core.step s = .next t := h
  simp only [Host.Core.run, hstep]

/-! ### The statement -/

/-- Settles O48, by induction on the number of steps: an idle step keeps every premise and charges HALT_IDLE_TICKS once. -/
theorem haltedCoreIdlesForever : Obligations.HaltedCoreIdlesForever := by
  intro n
  induction n with
  | zero =>
    intro s _ _ _
    simp [Host.Core.run]
  | succ n ih =>
    intro s hf hh hq
    have hrest := ih s.idle hf hh hq
    have hticks : s.ticks + s.launch.haltIdleTicks + n * s.launch.haltIdleTicks =
        s.ticks + (n + 1) * s.launch.haltIdleTicks := by ring
    rw [run_succ_of_step_eq_next (step_of_halted_quiet hf hh hq), hrest, State.idle_ticks, State.idle_launch, hticks]
    rfl

end Sys2Proof.Machine
end

section
/-! The 8-bit loads and stores (41_loads_8bit.md): each is the one load `dst ← src` with its own length and ticks, so the
statements follow from what that load does to a state, once for a register destination and once for a memory one. -/

namespace Sys2Proof.Machine

open Sys2Proof.Statements

/-! ### A sequential instruction (R100, R105) -/

/-- A microcode that writes neither pc nor the outcome `taken` is followed by the next instruction. -/
theorem engine_sequential {d : Descriptor} {micro : Microcode} {s : State} (hseq : (micro s).taken = false)
    (hpc : (micro s).state.pc = s.pc) :
    engine d micro s = .next (finish (micro s).state (commit d.gate s.flags (micro s).flags)
      (s.pc + BitVec.ofNat 16 d.length) (cycleCost s.launch d.row d.cost false)) := by
  rw [engine_next, hseq, hpc]
  rfl

/-! ### One store of a byte -/

theorem stores_memWrite {s u : State} (hwf : s.mem.wf = true) (hmem : u.mem = s.mem) (hlaunch : u.launch = s.launch)
    (a : Word) (v : Byte) : Stores s (u.memWrite a v) [(a, v)] := by
  intro b
  rw [State.peek_memWrite (hmem ▸ hwf), State.peek_congr hlaunch hmem]
  by_cases hb : b = a
  · simp [hb]
  · have hne : (b == a) = false := beq_false_of_ne hb
    simp [hb, hne, List.lookup_cons]

/-- An instruction whose only write to memory is one byte. `u` is the start state with its register writes. -/
theorem completesStoring_of_memWrite {i : Instr} {s u : State} {a pc : Word} {v f : Byte} {ticks : Nat}
    (hexec : exec i s = .next (finish (u.memWrite a v) f pc ticks)) (hwf : s.mem.wf = true) (hmem : u.mem = s.mem)
    (hlaunch : u.launch = s.launch) : CompletesStoring i s (finish u f pc ticks) [(a, v)] := by
  have hframe : finish { u.memWrite a v with mem := s.mem } f pc ticks = finish u f pc ticks := by
    rw [← hmem, State.memWrite_frame]
  exact ⟨_, hexec, hframe, stores_memWrite hwf hmem hlaunch a v⟩

/-! ### The load `dst ← src` (R102, R120 to R138) -/

/-- The meaning of `i` is the load `dst ← src`, with this length and these default ticks, and no flag changes. -/
def IsLd8 (i : Instr) (length ticks : Nat) (dst : Dest8) (src : Source8) : Prop :=
  ∀ s, exec i s = engine (primaryDesc i.row length ticks gxxxx) (microLd8 dst src) s

section
variable {i : Instr} {length ticks : Nat} {dst : Dest8} {src : Source8}

theorem IsLd8.exec_eq (h : IsLd8 i length ticks dst src) (s : State) :
    exec i s = .next (finish (dst.write (src.read s).1 (src.read s).2) (keptF s) (s.pc + BitVec.ofNat 16 length)
      (fixedTicks s i ticks)) := by
  have hpc : (microLd8 dst src s).state.pc = s.pc := by simp [microLd8]
  rw [h s, engine_sequential rfl hpc]
  simp only [primaryDesc, State.flags, commit_unaffected]
  rfl

/-- A load whose destination writes the byte `v` at `a` in `u`, the start state with HL stepped or not. -/
theorem IsLd8.completesStoring (h : IsLd8 i length ticks dst src) {s u : State} {a : Word} {v : Byte}
    (hwrite : dst.write (src.read s).1 (src.read s).2 = u.memWrite a v) (hwf : s.mem.wf = true) (hmem : u.mem = s.mem)
    (hlaunch : u.launch = s.launch) :
    CompletesStoring i s (finish u (keptF s) (s.pc + BitVec.ofNat 16 length) (fixedTicks s i ticks)) [(a, v)] :=
  completesStoring_of_memWrite (hwrite ▸ h.exec_eq s) hwf hmem hlaunch

end

/-! ### Which load each instruction is -/

theorem isLd8_ldRegReg (d r : Reg8) : IsLd8 (.ldRegReg d r) 1 4 (.reg d) (.reg r) := by
  intro s
  cases d <;> cases r <;> rfl

theorem isLd8_ldRegImm (d : Reg8) (n : Byte) : IsLd8 (.ldRegImm d n) 2 8 (.reg d) (.imm n) := by
  intro s
  cases d <;> rfl

theorem isLd8_ldRegAtHL (d : Reg8) : IsLd8 (.ldRegAtHL d) 1 8 (.reg d) (.atPair .HL) := by
  intro s
  cases d <;> rfl

theorem isLd8_ldAtHLReg (r : Reg8) : IsLd8 (.ldAtHLReg r) 1 8 (.atPair .HL) (.reg r) := by
  intro s
  cases r <;> rfl

theorem isLd8_ld_atHL_d8 (n : Byte) : IsLd8 (.ld_atHL_d8 n) 2 12 (.atPair .HL) (.imm n) := fun _ => rfl

theorem isLd8_ld_A_atBC : IsLd8 .ld_A_atBC 1 8 (.reg .A) (.atPair .BC) := fun _ => rfl
theorem isLd8_ld_A_atDE : IsLd8 .ld_A_atDE 1 8 (.reg .A) (.atPair .DE) := fun _ => rfl
theorem isLd8_ld_A_atA16 (addr : Word) : IsLd8 (.ld_A_atA16 addr) 3 16 (.reg .A) (.atAddr addr) := fun _ => rfl
theorem isLd8_ldh_A_atA8 (n : Byte) : IsLd8 (.ldh_A_atA8 n) 2 12 (.reg .A) (.ioPort n) := fun _ => rfl
theorem isLd8_ld_A_atC : IsLd8 .ld_A_atC 1 8 (.reg .A) .ioPortC := fun _ => rfl

theorem isLd8_ld_atBC_A : IsLd8 .ld_atBC_A 1 8 (.atPair .BC) (.reg .A) := fun _ => rfl
theorem isLd8_ld_atDE_A : IsLd8 .ld_atDE_A 1 8 (.atPair .DE) (.reg .A) := fun _ => rfl
theorem isLd8_ld_atA16_A (addr : Word) : IsLd8 (.ld_atA16_A addr) 3 16 (.atAddr addr) (.reg .A) := fun _ => rfl
theorem isLd8_ldh_atA8_A (n : Byte) : IsLd8 (.ldh_atA8_A n) 2 12 (.ioPort n) (.reg .A) := fun _ => rfl
theorem isLd8_ld_atC_A : IsLd8 .ld_atC_A 1 8 .ioPortC (.reg .A) := fun _ => rfl

theorem isLd8_ld_atHLinc_A : IsLd8 .ld_atHLinc_A 1 8 .autoInc (.reg .A) := fun _ => rfl
theorem isLd8_ld_atHLdec_A : IsLd8 .ld_atHLdec_A 1 8 .autoDec (.reg .A) := fun _ => rfl
theorem isLd8_ld_A_atHLinc : IsLd8 .ld_A_atHLinc 1 8 (.reg .A) .autoInc := fun _ => rfl
theorem isLd8_ld_A_atHLdec : IsLd8 .ld_A_atHLdec 1 8 (.reg .A) .autoDec := fun _ => rfl

/-! ### Encodings of the register families (R82, R83) -/

theorem encode_ldRegReg (d r : Reg8) : encode (.ldRegReg d r) = [byte (0x40 + 8 * d.code + r.code)] := by
  cases d <;> cases r <;> rfl

theorem encode_ldRegImm (d : Reg8) (n : Byte) : encode (.ldRegImm d n) = [byte (0x06 + 8 * d.code), n] := by
  cases d <;> rfl

theorem encode_ldRegAtHL (d : Reg8) : encode (.ldRegAtHL d) = [byte (0x46 + 8 * d.code)] := by
  cases d <;> rfl

theorem encode_ldAtHLReg (r : Reg8) : encode (.ldAtHLReg r) = [byte (0x70 + r.code)] := by
  cases r <;> rfl

/-! ### Addresses and reads -/

/-- The offset into the I/O page is unsigned, so the sum never wraps (R131). -/
theorem ioAddress_eq_ofNat (n : Byte) : ioAddress n = BitVec.ofNat 16 (0xFF00 + n.toNat) := by
  unfold ioAddress
  bv_omega

@[simp] theorem State.memRead_setPair (s : State) (p : Pair) (v : Word) (k : ReadSlot) (a : Word) :
    (s.setPair p v).memRead k a = s.memRead k a :=
  State.memRead_congr (s.setPair_launch p v) (s.setPair_draws p v) (s.setPair_mem p v) k a

/-! ### The statements -/

/-- Settles O7: the three families are the load with a register destination. -/
theorem loadRegisterFromRegisterImmediateOrHL : Obligations.LoadRegisterFromRegisterImmediateOrHL := by
  intro d r n s
  exact ⟨⟨encode_ldRegReg d r, encode_ldRegImm d n, encode_ldRegAtHL d⟩,
    (isLd8_ldRegReg d r).exec_eq s, (isLd8_ldRegImm d n).exec_eq s, (isLd8_ldRegAtHL d).exec_eq s⟩

/-- Settles O8: both are the load with destination (HL), from a register and from the immediate. -/
theorem storeRegisterAndImmediateAtHL : Obligations.StoreRegisterAndImmediateAtHL := by
  intro s hwf
  exact ⟨fun r => ⟨encode_ldAtHLReg r, (isLd8_ldAtHLReg r).completesStoring rfl hwf rfl rfl⟩,
    fun n => ⟨rfl, (isLd8_ld_atHL_d8 n).completesStoring rfl hwf rfl rfl⟩⟩

/-- Settles O9: the five are the load with destination A; the two I/O reads are at `0xFF00` plus an unsigned offset. -/
theorem loadAccumulatorFromMemory : Obligations.LoadAccumulatorFromMemory := by
  intro s addr n
  rw [← ioAddress_eq_ofNat n, ← ioAddress_eq_ofNat s.c]
  exact ⟨⟨rfl, rfl, rfl, rfl, rfl⟩, isLd8_ld_A_atBC.exec_eq s, isLd8_ld_A_atDE.exec_eq s,
    (isLd8_ld_A_atA16 addr).exec_eq s, (isLd8_ldh_A_atA8 n).exec_eq s, isLd8_ld_A_atC.exec_eq s⟩

/-- Settles O10: the five are the load from A with a memory destination that leaves the registers alone. -/
theorem storeAccumulatorToMemory : Obligations.StoreAccumulatorToMemory := by
  intro s addr n hwf
  rw [← ioAddress_eq_ofNat n, ← ioAddress_eq_ofNat s.c]
  exact ⟨⟨rfl, rfl, rfl, rfl, rfl⟩, isLd8_ld_atBC_A.completesStoring rfl hwf rfl rfl,
    isLd8_ld_atDE_A.completesStoring rfl hwf rfl rfl, (isLd8_ld_atA16_A addr).completesStoring rfl hwf rfl rfl,
    (isLd8_ldh_atA8_A n).completesStoring rfl hwf rfl rfl, isLd8_ld_atC_A.completesStoring rfl hwf rfl rfl⟩

/-- Settles O11: the operand steps HL once, and the access is at HL as it was; stepping HL changes no read. -/
theorem autoSteppingLoadsAndStoresStepHLOnce : Obligations.AutoSteppingLoadsAndStoresStepHLOnce := by
  intro s
  refine ⟨⟨rfl, rfl, rfl, rfl⟩, fun hwf => ⟨?_, ?_⟩, ?_, ?_⟩
  · exact isLd8_ld_atHLinc_A.completesStoring rfl hwf (s.setPair_mem ..) (s.setPair_launch ..)
  · exact isLd8_ld_atHLdec_A.completesStoring rfl hwf (s.setPair_mem ..) (s.setPair_launch ..)
  · rw [← s.memRead_setPair .HL (s.pair .HL + 1)]
    exact isLd8_ld_A_atHLinc.exec_eq s
  · rw [← s.memRead_setPair .HL (s.pair .HL - 1)]
    exact isLd8_ld_A_atHLdec.exec_eq s

end Sys2Proof.Machine
end

section
/-! The 16-bit loads and the stack operations (42_loads_16bit_stack.md): what the two 16-bit writes leave in memory, what
SP plus a signed offset is in arithmetic, and what a sequential instruction answers for its microcode. -/

namespace Sys2Proof.Machine

open Sys2Proof.Statements

/-! ### Two cells written (R53, R110) -/

theorem stores_memWrite_cons {s t : State} {cells : List (Word × Byte)} (h : Stores s t cells) (hwf : t.mem.wf = true)
    (a : Word) (v : Byte) : Stores s (t.memWrite a v) ((a, v) :: cells) := by
  intro b
  rw [State.peek_memWrite hwf, h b]
  by_cases hb : b = a
  · simp [hb, Function.comp_def]
  · have hne : (b == a) = false := beq_false_of_ne hb
    simp [hb, hne, List.lookup_cons]

/-- Two different cells may be listed in either order. -/
theorem stores_swap {s t : State} {a b : Word} {v w : Byte} {cells : List (Word × Byte)} (hab : a ≠ b)
    (h : Stores s t ((a, v) :: (b, w) :: cells)) : Stores s t ((b, w) :: (a, v) :: cells) := by
  intro x
  rw [h x]
  by_cases hxa : x = a
  · have hne : (x == b) = false := beq_false_of_ne (hxa ▸ hab)
    simp [hxa ▸ hne, hxa, List.lookup_cons]
  · have hne : (x == a) = false := beq_false_of_ne hxa
    simp [hne, List.lookup_cons]

/-- Two writes to different cells, listed in the order they are made. -/
theorem stores_memWrite_memWrite {s : State} (hwf : s.mem.wf = true) {a b : Word} (hab : a ≠ b) (v w : Byte) :
    Stores s ((s.memWrite a v).memWrite b w) [(a, v), (b, w)] := by
  have hfirst := stores_memWrite hwf rfl rfl a v
  have hboth := stores_memWrite_cons hfirst (State.memWrite_wf hwf a v) b w
  exact stores_swap hab.symm hboth

theorem stores_memWrite16 {s : State} (hwf : s.mem.wf = true) (a v : Word) :
    Stores s (s.memWrite16 a v) [(a, lo8 v), (a + 1, hi8 v)] := by
  have hne : a ≠ a + 1#16 := by bv_omega
  exact stores_memWrite_memWrite hwf hne (lo8 v) (hi8 v)

theorem stores_push16 {s : State} (hwf : s.mem.wf = true) (v : Word) : Stores s (s.push16 v) (pushedCells s v) := by
  have hne : s.sp - 1#16 ≠ s.sp - 2#16 := by bv_omega
  rw [State.push16_eq]
  exact stores_memWrite_memWrite hwf hne (hi8 v) (lo8 v)

/-- An instruction that leaves `t` before the engine's own updates, known by its frame `u` and the cells it writes. -/
theorem completesStoring_of_stores {i : Instr} {s t u : State} {f : Byte} {pc : Word} {ticks : Nat}
    {cells : List (Word × Byte)} (hexec : exec i s = .next (finish t f pc ticks)) (hframe : { t with mem := s.mem } = u)
    (hstores : Stores s t cells) : CompletesStoring i s (finish u f pc ticks) cells := by
  subst hframe
  exact ⟨_, hexec, rfl, hstores⟩

/-! ### SP plus a signed offset (R10, R153) -/

theorem addSpOffset_fst (sp : Word) (e : Byte) : (addSpOffset sp e).1 = plusSigned sp e := by
  apply BitVec.eq_of_toNat_eq
  simp only [addSpOffset, sext16, plusSigned, BitVec.toNat_add, BitVec.toNat_ofNat, BitVec.toNat_ofInt]
  split <;> omega

theorem lowNibble_eq_mod (v : Byte) : lowNibble v = v.toNat % 16 := by
  rw [lowNibble, BitVec.toNat_and]
  exact Nat.and_two_pow_sub_one_eq_mod v.toNat 4

theorem commit_addSpOffset (f0 : Flags) (sp : Word) (e : Byte) :
    commit g00HC f0 (addSpOffset sp e).2 = spOffsetF sp e := by
  have hnibble : (sp &&& 0x000F#16).toNat = sp.toNat % 16 := by
    rw [BitVec.toNat_and]
    exact Nat.and_two_pow_sub_one_eq_mod sp.toNat 4
  have hbyte : (sp &&& 0x00FF#16).toNat = sp.toNat % 256 := by
    rw [BitVec.toNat_and]
    exact Nat.and_two_pow_sub_one_eq_mod sp.toNat 8
  rw [commit, Flags.toByte_eq_flagByte, addSpOffset, hnibble, hbyte, lowNibble_eq_mod]
  rfl

/-! ### POP AF's gate (R101, R156) -/

/-- Where all four flags are computed, F becomes the proposed flags whatever it was. -/
theorem commit_computed_ofByte (f0 : Flags) (f : Byte) : commit gZNHC f0 (Flags.ofByte f) = f &&& 0xF0#8 :=
  commit_unaffected f f0

/-! ### A sequential instruction with the table's length and ticks (R100, R105) -/

section
variable {i : Instr} {length ticks : Nat} {gate : Gate} {micro : Microcode} {s : State}

theorem exec_of_engine_sequential (hexec : exec i s = engine (primaryDesc i.row length ticks gate) micro s)
    (hseq : (micro s).taken = false) (hpc : (micro s).state.pc = s.pc) :
    exec i s = .next (finish (micro s).state (commit gate s.flags (micro s).flags) (s.pc + BitVec.ofNat 16 length)
      (fixedTicks s i ticks)) := by
  rw [hexec, engine_sequential hseq hpc]
  rfl

theorem exec_of_engine_flagless (hexec : exec i s = engine (primaryDesc i.row length ticks gxxxx) micro s)
    (hseq : (micro s).taken = false) (hpc : (micro s).state.pc = s.pc) :
    exec i s = .next (finish (micro s).state (keptF s) (s.pc + BitVec.ofNat 16 length) (fixedTicks s i ticks)) := by
  rw [exec_of_engine_sequential hexec hseq hpc, State.flags, commit_unaffected]
  rfl

end

/-! ### The families' microcode and bytes -/

theorem exec_ldPairImm_eq_engine (p : Pair) (nn : Word) (s : State) :
    exec (.ldPairImm p nn) s =
      engine (primaryDesc (Instr.ldPairImm p nn).row 3 12 gxxxx) (microLdPairImm p nn) s := by
  cases p <;> rfl

theorem encode_ldPairImm (p : Pair) (nn : Word) :
    encode (.ldPairImm p nn) = [byte (0x01 + 16 * p.code), lo8 nn, hi8 nn] := by
  cases p <;> rfl

theorem exec_push_eq_engine (p : StackPair) (s : State) :
    exec (.push p) s = engine (primaryDesc (Instr.push p).row 1 16 gxxxx) (microPush p) s := by
  cases p <;> rfl

theorem encode_push (p : StackPair) : encode (.push p) = [byte (0xC5 + 16 * p.code)] := by
  cases p <;> rfl

theorem encode_pop (p : StackPair) : encode (.pop p) = [byte (0xC1 + 16 * p.code)] := by
  cases p <;> rfl

/-- POP of a pair other than AF: SP moves on by two, the pair takes the popped word. -/
theorem exec_of_microPop {i : Instr} {p : Pair} {s : State}
    (hexec : exec i s = engine (primaryDesc i.row 1 12 gxxxx) (microPop p) s) :
    exec i s = .next (finish (State.setPair { s with sp := s.sp + 2 } p (poppedWord s)) (keptF s) (s.pc + 1)
      (fixedTicks s i 12)) := by
  have hpc : (microPop p s).state.pc = s.pc := by simp [microPop]
  rw [exec_of_engine_flagless hexec rfl hpc, microPop, State.pop16_frame]
  rfl

/-! ### The statements -/

/-- Settles O12: the four are one write of a pair, and the immediate's bytes stand low byte first. -/
theorem loadPairImmediate : Obligations.LoadPairImmediate := by
  intro p nn s
  have hpc : (microLdPairImm p nn s).state.pc = s.pc := s.setPair_pc p nn
  rw [← lo8_eq_byte, ← hi8_eq_byte]
  exact ⟨encode_ldPairImm p nn, exec_of_engine_flagless (exec_ldPairImm_eq_engine p nn s) rfl hpc⟩

/-- Settles O13: the 16-bit write is two writes of one byte, to cells that differ at the wrap too. -/
theorem storeStackPointerLittleEndian : Obligations.StoreStackPointerLittleEndian := by
  intro s addr hwf
  have hexec := exec_of_engine_flagless (i := .ld_atA16_SP addr) (micro := microStoreSP addr) (s := s) rfl rfl
    (s.memWrite16_pc addr s.sp)
  rw [← lo8_eq_byte, ← hi8_eq_byte]
  exact ⟨rfl, completesStoring_of_stores hexec (s.memWrite16_frame addr s.sp) (stores_memWrite16 hwf addr s.sp)⟩

/-- Settles O14: the model's offset, sign-extended as a word, is the signed sum, and its masks are remainders. -/
theorem stackPointerMovesAndOffsets : Obligations.StackPointerMovesAndOffsets := by
  intro s e
  refine ⟨⟨rfl, rfl, rfl⟩, exec_of_engine_flagless (micro := microLdSPHL) rfl rfl rfl, ?_, ?_⟩
  · rw [← addSpOffset_fst, ← commit_addSpOffset s.flags]
    exact exec_of_engine_sequential (micro := microLdHLSP e) rfl rfl rfl
  · rw [← addSpOffset_fst, ← commit_addSpOffset s.flags]
    exact exec_of_engine_sequential (micro := microAddSP e) rfl rfl rfl

/-- Settles O15: PUSH is the stack write of the pair's value, AF's without the low nibble of F. -/
theorem pushStoresHighThenLow : Obligations.PushStoresHighThenLow := by
  intro p s hwf
  have hexec := exec_of_engine_flagless (exec_push_eq_engine p s) rfl (s.push16_pc (s.stackPair p))
  have hcompletes := completesStoring_of_stores hexec (s.push16_frame (s.stackPair p))
    (stores_push16 hwf (s.stackPair p))
  refine ⟨encode_push p, ?_⟩
  cases p <;> exact hcompletes

/-- Settles O16: three are POP of a pair; POP AF proposes the low byte's flags to a gate that takes all four. -/
theorem popReadsLowThenHigh : Obligations.PopReadsLowThenHigh := by
  intro s
  refine ⟨encode_pop, exec_of_microPop (p := .BC) rfl, exec_of_microPop (p := .DE) rfl,
    exec_of_microPop (p := .HL) rfl, ?_⟩
  have hpop := exec_of_engine_sequential (i := .pop_AF) (micro := microPopAF) (s := s) rfl rfl rfl
  rw [hpop, microPopAF, commit_computed_ofByte, State.pop16_frame]
  rfl

end Sys2Proof.Machine
end

section
/-! The 8-bit arithmetic and logic (43_alu_8bit.md): each instruction is the engine around one flag computation, so
the statements follow from what each computation is in arithmetic, and from one fact about every form of an ALU
instruction. -/

namespace Sys2Proof.Machine

open Sys2Proof.Statements

/-! ### Bytes as numbers -/

theorem byte_toNat (v : Byte) : byte v.toNat = v := by
  rw [byte, BitVec.ofNat_toNat, BitVec.setWidth_eq]

theorem byte_beq_zero (n : Nat) : (byte n == 0#8) = decide (n % 256 = 0) := by
  have hzero : byte n = 0#8 ↔ n % 256 = 0 := BitVec.toNat_inj.symm
  rw [Bool.eq_iff_iff, beq_iff_eq, decide_eq_true_iff, hzero]

/-- Two integers with the same remainder are one byte (R10). -/
theorem ofInt_eq_byte {d : Int} {n : Nat} (h : d % 256 = (n : Int) % 256) : BitVec.ofInt 8 d = byte n := by
  apply BitVec.eq_of_toNat_eq
  rw [BitVec.toNat_ofInt, byte, BitVec.toNat_ofNat]
  omega

theorem add_one_eq_byte (v : Byte) : v + 1#8 = byte (v.toNat + 1) := BitVec.eq_of_toNat_eq rfl

theorem sub_one_eq_byte (v : Byte) : v - 1#8 = byte (v.toNat + 255) := by
  apply BitVec.eq_of_toNat_eq
  rw [BitVec.toNat_sub, Nat.add_comm]
  rfl

theorem xor_allOnes_eq_byte (v : Byte) : v ^^^ 0xFF#8 = byte (255 - v.toNat) := by
  have hnot : v ^^^ 0xFF#8 = ~~~v := BitVec.xor_allOnes
  rw [hnot, ← byte_toNat (~~~v), BitVec.toNat_not]

/-- A borrow into a difference counts with what is subtracted. -/
theorem below_add (x y z : Nat) : below x (y + z) = decide ((x : Int) - (y : Int) - (z : Int) < 0) := by
  rw [below, Nat.cast_add, Int.sub_sub]

/-! ### The gate's flag byte (R101) -/

theorem commit_eq_flagByte (g : Gate) (f0 p : Flags) :
    commit g f0 p = flagByte (g.z.commit f0.z p.z) (g.n.commit f0.n p.n) (g.h.commit f0.h p.h) (g.c.commit f0.c p.c) :=
  Flags.toByte_eq_flagByte _

/-! ### An instruction by its parts (R100, R101) -/

/-- A sequential instruction, from what its microcode leaves and the flag byte that the gate commits. -/
theorem exec_of_parts {i : Instr} {length ticks : Nat} {gate : Gate} {micro : Microcode} {s u : State} {f : Byte}
    (hexec : exec i s = engine (primaryDesc i.row length ticks gate) micro s) (hseq : (micro s).taken = false)
    (hstate : (micro s).state = u) (hpc : u.pc = s.pc) (hf : commit gate s.flags (micro s).flags = f) :
    exec i s = .next (finish u f (s.pc + BitVec.ofNat 16 length) (fixedTicks s i ticks)) := by
  subst hstate hf
  exact exec_of_engine_sequential hexec hseq hpc

/-! ### Sums (R170, R172) -/

theorem commit_add8 (f0 : Flags) (a b : Byte) (c : Bool) :
    commit gZ0HC f0 (add8 a b c).2 =
      flagByte (decide ((a.toNat + b.toNat + c.toNat) % 256 = 0)) false
        (decide (a.toNat % 16 + b.toNat % 16 + c.toNat > 15)) (decide (a.toNat + b.toNat + c.toNat > 255)) := by
  rw [commit_eq_flagByte, ← byte_beq_zero, ← lowNibble_eq_mod, ← lowNibble_eq_mod]
  rfl

theorem commit_adcFold (f0 : Flags) (a b : Byte) (c : Bool) :
    commit gZ0HC f0 (adcFold a b c).2 =
      flagByte (decide ((a.toNat + b.toNat + c.toNat) % 256 = 0)) false
        (decide (a.toNat % 16 + (b.toNat + c.toNat) % 16 > 15)) (decide (a.toNat + b.toNat + c.toNat > 255)) := by
  rw [commit_eq_flagByte, ← byte_beq_zero, ← lowNibble_eq_mod, Nat.add_assoc]
  rfl

theorem adc8_fst (mode : AdcSbcMode) (a b : Byte) (c : Bool) :
    (adc8 mode a b c).1 = byte (a.toNat + b.toNat + c.toNat) := by
  cases mode with
  | carryIn => rfl
  | fold =>
    rw [Nat.add_assoc]
    rfl

theorem commit_adc8 (f0 : Flags) (mode : AdcSbcMode) (a b : Byte) (c : Bool) :
    commit gZ0HC f0 (adc8 mode a b c).2 =
      flagByte (decide ((a.toNat + b.toNat + c.toNat) % 256 = 0)) false
        (match mode with
          | .carryIn => decide (a.toNat % 16 + b.toNat % 16 + c.toNat > 15)
          | .fold => decide (a.toNat % 16 + (b.toNat + c.toNat) % 16 > 15))
        (decide (a.toNat + b.toNat + c.toNat > 255)) := by
  cases mode with
  | carryIn => exact commit_add8 f0 a b c
  | fold => exact commit_adcFold f0 a b c

/-! ### Differences (R171, R172) -/

theorem sub8_fst (a b : Byte) (c : Bool) : (sub8 a b c).1 = byte (a.toNat + 512 - b.toNat - c.toNat) := by
  apply ofInt_eq_byte
  have hc := c.toNat_le
  omega

theorem sub8_false_fst (a b : Byte) : (sub8 a b false).1 = byte (a.toNat + 256 - b.toNat) := by
  apply ofInt_eq_byte
  simp only [Bool.toNat_false]
  omega

theorem sbcFold_fst (a b : Byte) (c : Bool) : (sbcFold a b c).1 = (sub8 a b c).1 := by
  simp only [sbcFold, sub8, Nat.cast_add, Int.sub_sub]

/-- SUB's flags, for any number `n` whose byte is the difference. -/
theorem commit_sub8 (f0 : Flags) {a b : Byte} {c : Bool} {n : Nat} (hres : (sub8 a b c).1 = byte n) :
    commit gZ1HC f0 (sub8 a b c).2 =
      flagByte (decide (n % 256 = 0)) true (below (a.toNat % 16) (b.toNat % 16 + c.toNat))
        (below a.toNat (b.toNat + c.toNat)) := by
  rw [commit_eq_flagByte, ← byte_beq_zero, ← hres, below_add, below_add, ← lowNibble_eq_mod, ← lowNibble_eq_mod]
  rfl

theorem commit_sbcFold (f0 : Flags) {a b : Byte} {c : Bool} {n : Nat} (hres : (sbcFold a b c).1 = byte n) :
    commit gZ1HC f0 (sbcFold a b c).2 =
      flagByte (decide (n % 256 = 0)) true (below (a.toNat % 16) ((b.toNat + c.toNat) % 16))
        (below a.toNat (b.toNat + c.toNat)) := by
  rw [commit_eq_flagByte, ← byte_beq_zero, ← hres, ← lowNibble_eq_mod]
  rfl

theorem sbc8_fst (mode : AdcSbcMode) (a b : Byte) (c : Bool) :
    (sbc8 mode a b c).1 = byte (a.toNat + 512 - b.toNat - c.toNat) := by
  cases mode with
  | carryIn => exact sub8_fst a b c
  | fold => exact (sbcFold_fst a b c).trans (sub8_fst a b c)

theorem commit_sbc8 (f0 : Flags) (mode : AdcSbcMode) (a b : Byte) (c : Bool) :
    commit gZ1HC f0 (sbc8 mode a b c).2 =
      flagByte (decide ((a.toNat + 512 - b.toNat - c.toNat) % 256 = 0)) true
        (match mode with
          | .carryIn => below (a.toNat % 16) (b.toNat % 16 + c.toNat)
          | .fold => below (a.toNat % 16) ((b.toNat + c.toNat) % 16))
        (below a.toNat (b.toNat + c.toNat)) := by
  cases mode with
  | carryIn => exact commit_sub8 f0 (sbc8_fst .carryIn a b c)
  | fold => exact commit_sbcFold f0 (sbc8_fst .fold a b c)

/-- A difference of two bytes is 0 exactly when they are equal (R196). -/
theorem commit_sub8_false (f0 : Flags) (a b : Byte) :
    commit gZ1HC f0 (sub8 a b false).2 =
      flagByte (decide (a.toNat = b.toNat)) true (below (a.toNat % 16) (b.toNat % 16)) (below a.toNat b.toNat) := by
  have hzero : (a.toNat + 256 - b.toNat) % 256 = 0 ↔ a.toNat = b.toNat := by omega
  rw [commit_sub8 f0 (sub8_false_fst a b), decide_eq_decide.2 hzero]
  rfl

/-! ### The nine forms of an ALU instruction (R174) -/

/-- The effect string of each alu index: `Z0HC`, `Z1HC`, `Z010` and `Z000`. -/
def aluGate : AluOp → Gate
  | .add | .adc => gZ0HC
  | .sub | .sbc | .cp => gZ1HC
  | .and => gZ010
  | .xor | .or => gZ000

theorem encode_alu (op : AluOp) (src : AluSource) : encode (.alu op src) = aluBytes op src := by
  rcases src with r | _ | n
  · cases op <;> cases r <;> rfl
  · cases op <;> rfl
  · cases op <;> rfl

theorem exec_alu_eq_engine (op : AluOp) (src : AluSource) (s : State) :
    exec (.alu op src) s =
      engine (primaryDesc (Instr.alu op src).row (aluBytes op src).length (aluTicks src) (aluGate op)) (microAlu op src)
        s := by
  rcases src with r | _ | n
  · cases op <;> cases r <;> rfl
  · cases op <;> rfl
  · cases op <;> rfl

theorem aluBytes_length (op : AluOp) (src : AluSource) :
    BitVec.ofNat 16 (aluBytes op src).length = aluLength src := by
  cases src <;> rfl

theorem readAluSource_eq (src : AluSource) (s : State) : readAluSource src s = aluValue src s := by
  cases src <;> rfl

theorem microAlu_flags (op : AluOp) (src : AluSource) (s : State) :
    (microAlu op src s).flags = (aluOp op s.launch.adcSbcMode s.a (aluValue src s) s.flags.c).2 := by
  rw [← readAluSource_eq]
  cases op <;> rfl

theorem microAlu_taken (op : AluOp) (src : AluSource) (s : State) : (microAlu op src s).taken = false := by
  cases op <;> rfl

theorem microAlu_state (op : AluOp) (src : AluSource) (s : State) :
    (microAlu op src s).state =
      { s with a := if op = .cp then s.a else (aluOp op s.launch.adcSbcMode s.a (aluValue src s) s.flags.c).1 } := by
  rw [← readAluSource_eq]
  cases op <;> rfl

/-- Every form of an ALU instruction, from its two parts: the byte for A, which CP leaves alone, and F. -/
theorem exec_alu {op : AluOp} {src : AluSource} {s : State} {res f : Byte}
    (hres : (if op = .cp then s.a else (aluOp op s.launch.adcSbcMode s.a (aluValue src s) s.flags.c).1) = res)
    (hf : commit (aluGate op) s.flags (aluOp op s.launch.adcSbcMode s.a (aluValue src s) s.flags.c).2 = f) :
    exec (.alu op src) s = .next (aluFinish op src s res f) := by
  have hstate : (microAlu op src s).state = { s with a := res } := by rw [microAlu_state, hres]
  have hflags : commit (aluGate op) s.flags (microAlu op src s).flags = f := by rw [microAlu_flags, hf]
  rw [exec_of_parts (exec_alu_eq_engine op src s) (microAlu_taken op src s) hstate rfl hflags, aluBytes_length]
  rfl

/-! ### INC and DEC (R199, R201) -/

theorem commit_inc8 (f0 : Flags) (v : Byte) :
    commit gZ0Hx f0 (inc8 v).2 =
      flagByte (decide (v.toNat = 255)) false (decide (v.toNat % 16 = 15)) f0.c := by
  have hzero : (v.toNat + 1) % 256 = 0 ↔ v.toNat = 255 := by omega
  rw [commit_eq_flagByte, ← lowNibble_eq_mod, ← decide_eq_decide.2 hzero, ← byte_beq_zero, ← add_one_eq_byte]
  rfl

theorem commit_dec8 (f0 : Flags) (v : Byte) :
    commit gZ1Hx f0 (dec8 v).2 =
      flagByte (decide (v.toNat = 1)) true (decide (v.toNat % 16 = 0)) f0.c := by
  have hzero : (v.toNat + 255) % 256 = 0 ↔ v.toNat = 1 := by omega
  rw [commit_eq_flagByte, ← lowNibble_eq_mod, ← decide_eq_decide.2 hzero, ← byte_beq_zero, ← sub_one_eq_byte]
  rfl

theorem encode_inc8_reg (r : Reg8) : encode (.inc8 (.reg r)) = [byte (0x04 + 8 * r.code)] := by
  cases r <;> rfl

theorem encode_dec8_reg (r : Reg8) : encode (.dec8 (.reg r)) = [byte (0x05 + 8 * r.code)] := by
  cases r <;> rfl

theorem exec_inc8_reg_eq_engine (r : Reg8) (s : State) :
    exec (.inc8 (.reg r)) s = engine (primaryDesc (Instr.inc8 (.reg r)).row 1 4 gZ0Hx) (microInc8 (.reg r)) s := by
  cases r <;> rfl

theorem exec_dec8_reg_eq_engine (r : Reg8) (s : State) :
    exec (.dec8 (.reg r)) s = engine (primaryDesc (Instr.dec8 (.reg r)).row 1 4 gZ1Hx) (microDec8 (.reg r)) s := by
  cases r <;> rfl

/-- An increment, from the engine around it: the target takes the successor, C stays. -/
theorem exec_of_microInc8 {i : Instr} {t : Target8} {ticks : Nat} {s : State}
    (hexec : exec i s = engine (primaryDesc i.row 1 ticks gZ0Hx) (microInc8 t) s) :
    exec i s = .next (finish (writeTarget t (byte ((readTarget t s).toNat + 1)) s)
      (flagByte (decide ((readTarget t s).toNat = 255)) false (decide ((readTarget t s).toNat % 16 = 15)) (cOf s))
      (s.pc + 1) (fixedTicks s i ticks)) := by
  have hf := commit_inc8 s.flags (readTarget t s)
  rw [← add_one_eq_byte]
  exact exec_of_parts hexec rfl rfl (writeTarget_pc ..) hf

theorem exec_of_microDec8 {i : Instr} {t : Target8} {ticks : Nat} {s : State}
    (hexec : exec i s = engine (primaryDesc i.row 1 ticks gZ1Hx) (microDec8 t) s) :
    exec i s = .next (finish (writeTarget t (byte ((readTarget t s).toNat + 255)) s)
      (flagByte (decide ((readTarget t s).toNat = 1)) true (decide ((readTarget t s).toNat % 16 = 0)) (cOf s))
      (s.pc + 1) (fixedTicks s i ticks)) := by
  have hf := commit_dec8 s.flags (readTarget t s)
  rw [← sub_one_eq_byte]
  exact exec_of_parts hexec rfl rfl (writeTarget_pc ..) hf

/-! ### DAA (R203) -/

/-- Adding 0x60 leaves the low nibble to the second test. -/
theorem lowNibble_ite_add_60 (v : Byte) (high : Bool) :
    lowNibble (if high then v + 0x60#8 else v) = v.toNat % 16 := by
  rw [lowNibble_eq_mod]
  cases high with
  | false => rfl
  | true =>
    rw [if_pos rfl, BitVec.toNat_add, BitVec.toNat_ofNat]
    omega

theorem daa8_fst_of_n (v : Byte) {f0 : Flags} (hn : f0.n = true) :
    (daa8 v f0).1 = byte (v.toNat + 512 - ((if f0.c then 0x60 else 0) + (if f0.h then 6 else 0))) := by
  simp only [daa8, hn, if_true, byte]
  cases f0.c <;> cases f0.h <;> simp only [Bool.false_eq_true, if_false, if_true] <;> bv_omega

theorem daa8_fst_of_not_n (v : Byte) {f0 : Flags} (hn : f0.n = false) :
    (daa8 v f0).1 =
      byte (v.toNat + ((if f0.c || decide (v.toNat > 0x99) then 0x60 else 0) +
        (if f0.h || decide (v.toNat % 16 > 9) then 6 else 0))) := by
  simp only [daa8, hn, Bool.false_eq_true, if_false, lowNibble_ite_add_60, byte]
  cases f0.c || decide (v.toNat > 0x99) <;> cases f0.h || decide (v.toNat % 16 > 9) <;>
    simp only [Bool.false_eq_true, if_false, if_true] <;> bv_omega

theorem daa8_fst (s : State) : (daa8 s.a s.flags).1 = daaResult s := by
  cases hn : nOf s with
  | true =>
    rw [daa8_fst_of_n s.a hn, daaResult, daaAdjust, hn]
    rfl
  | false =>
    rw [daa8_fst_of_not_n s.a hn, daaResult, daaAdjust, hn]
    rfl

theorem daa8_z (a : Byte) (f0 : Flags) : (daa8 a f0).2.z = decide ((daa8 a f0).1 = 0#8) := by
  unfold daa8
  split <;> rfl

theorem daa8_c (s : State) : (daa8 s.a s.flags).2.c = daaCarry s := by
  have hflag : s.flags.n = nOf s := rfl
  rw [daa8, daaCarry, hflag]
  cases nOf s with
  | true => exact (Bool.or_false _).symm
  | false => rfl

theorem commit_daa8 (s : State) :
    commit gZx0C s.flags (daa8 s.a s.flags).2 =
      flagByte (decide (daaResult s = 0#8)) (nOf s) false (daaCarry s) := by
  rw [commit_eq_flagByte, ← daa8_fst, ← daa8_z, ← daa8_c]
  rfl

/-! ### The statements -/

/-- Settles O18: the sum without a carry into it. -/
theorem addSetsResultAndFlags : Obligations.AddSetsResultAndFlags := by
  intro src s
  exact ⟨encode_alu .add src, exec_alu rfl (commit_add8 s.flags s.a (aluValue src s) false)⟩

/-- Settles O19: the sum with F's carry, whose two modes share all but H. -/
theorem addWithCarrySetsResultAndFlags : Obligations.AddWithCarrySetsResultAndFlags := by
  intro src s
  exact ⟨encode_alu .adc src, exec_alu (adc8_fst s.launch.adcSbcMode s.a (aluValue src s) (cOf s))
    (commit_adc8 s.flags s.launch.adcSbcMode s.a (aluValue src s) (cOf s))⟩

/-- Settles O20: the difference without a borrow into it. -/
theorem subtractSetsResultAndFlags : Obligations.SubtractSetsResultAndFlags := by
  intro src s
  have hres := sub8_false_fst s.a (aluValue src s)
  exact ⟨encode_alu .sub src, exec_alu hres (commit_sub8 s.flags hres)⟩

/-- Settles O21: the difference with F's carry as borrow, whose two modes share all but H. -/
theorem subtractWithCarrySetsResultAndFlags : Obligations.SubtractWithCarrySetsResultAndFlags := by
  intro src s
  exact ⟨encode_alu .sbc src, exec_alu (sbc8_fst s.launch.adcSbcMode s.a (aluValue src s) (cOf s))
    (commit_sbc8 s.flags s.launch.adcSbcMode s.a (aluValue src s) (cOf s))⟩

/-- Settles O23: the model's results are the bitwise ones, and the gates `Z010` and `Z000` force the other flags. -/
theorem logicOperationsSetResultAndFlags : Obligations.LogicOperationsSetResultAndFlags := by
  intro src s
  exact ⟨⟨encode_alu .and src, encode_alu .xor src, encode_alu .or src⟩,
    exec_alu rfl (commit_eq_flagByte gZ010 s.flags (and8 s.a (aluValue src s)).2),
    exec_alu rfl (commit_eq_flagByte gZ000 s.flags (xor8 s.a (aluValue src s)).2),
    exec_alu rfl (commit_eq_flagByte gZ000 s.flags (or8 s.a (aluValue src s)).2)⟩

/-- Settles O24: SUB's flags, the result discarded. -/
theorem compareSetsFlagsAndKeepsA : Obligations.CompareSetsFlagsAndKeepsA := by
  intro src s
  exact ⟨encode_alu .cp src, exec_alu rfl (commit_sub8_false s.flags s.a (aluValue src s))⟩

/-- Settles O25: the target is the register. -/
theorem incrementAndDecrementRegister : Obligations.IncrementAndDecrementRegister := by
  intro r s
  exact ⟨⟨encode_inc8_reg r, encode_dec8_reg r⟩, exec_of_microInc8 (exec_inc8_reg_eq_engine r s),
    exec_of_microDec8 (exec_dec8_reg_eq_engine r s)⟩

/-- Settles O26: the target is the byte at HL, written once. -/
theorem incrementAndDecrementAtHL : Obligations.IncrementAndDecrementAtHL := by
  intro s hwf
  have hinc := exec_of_microInc8 (i := .inc8 .atHL) (t := .atHL) (ticks := 12) (s := s) rfl
  have hdec := exec_of_microDec8 (i := .dec8 .atHL) (t := .atHL) (ticks := 12) (s := s) rfl
  exact ⟨⟨rfl, rfl⟩, completesStoring_of_memWrite hinc hwf rfl rfl, completesStoring_of_memWrite hdec hwf rfl rfl⟩

/-- Settles O28: the byte and the carry are the canonical ones; the gate clears H and keeps N. -/
theorem decimalAdjustCorrectsTheAccumulator : Obligations.DecimalAdjustCorrectsTheAccumulator := by
  intro s
  have hstate : (microDaa s).state = { s with a := daaResult s } := by
    rw [← daa8_fst]
    rfl
  exact ⟨rfl, exec_of_parts (micro := microDaa) rfl rfl hstate rfl (commit_daa8 s)⟩

/-- Settles O30: CPL is the complement to 255; the gates force N, H and SCF's C, and keep Z. -/
theorem complementAndCarryInstructions : Obligations.ComplementAndCarryInstructions := by
  intro s
  rw [← xor_allOnes_eq_byte]
  exact ⟨⟨rfl, rfl, rfl⟩, exec_of_parts (micro := microCpl) rfl rfl rfl rfl (commit_eq_flagByte ..),
    exec_of_parts (micro := microScf) rfl rfl rfl rfl (commit_eq_flagByte ..),
    exec_of_parts (micro := microCcf) rfl rfl rfl rfl (commit_eq_flagByte ..)⟩

end Sys2Proof.Machine
end

section
/-! The 16-bit arithmetic (44_alu_16bit.md): each family is the engine around one write of a pair, so the statement
follows from what the written word is in arithmetic and, for ADD HL,rr, what the gate `-0HC` commits. -/

namespace Sys2Proof.Machine

open Sys2Proof.Statements

/-! ### Words as numbers (R220 to R222) -/

theorem add_one_eq_ofNat (v : Word) : v + 1#16 = BitVec.ofNat 16 (v.toNat + 1) := BitVec.eq_of_toNat_eq rfl

theorem sub_one_eq_ofNat (v : Word) : v - 1#16 = BitVec.ofNat 16 (v.toNat + 65535) := by
  apply BitVec.eq_of_toNat_eq
  rw [BitVec.toNat_sub, Nat.add_comm]
  rfl

theorem toNat_and_0FFF (v : Word) : (v &&& 0x0FFF#16).toNat = v.toNat % 4096 := by
  rw [BitVec.toNat_and]
  exact Nat.and_two_pow_sub_one_eq_mod v.toNat 12

/-! ### The flags of ADD HL,rr (R220) -/

/-- The gate keeps Z and forces N; H and C are the carries out of bits 11 and 15. -/
theorem commit_add16 (f0 : Flags) (a b : Word) :
    commit gx0HC f0 (add16 a b).2 =
      flagByte f0.z false (decide (a.toNat % 4096 + b.toNat % 4096 > 4095)) (decide (a.toNat + b.toNat > 65535)) := by
  rw [commit_eq_flagByte, ← toNat_and_0FFF, ← toNat_and_0FFF]
  rfl

/-! ### The families' microcode and bytes -/

theorem exec_addHL_eq_engine (p : Pair) (s : State) :
    exec (.addHL p) s = engine (primaryDesc (Instr.addHL p).row 1 8 gx0HC) (microAddHL p) s := by
  cases p <;> rfl

theorem encode_addHL (p : Pair) : encode (.addHL p) = [byte (0x09 + 16 * p.code)] := by
  cases p <;> rfl

theorem exec_incPair_eq_engine (p : Pair) (s : State) :
    exec (.incPair p) s = engine (primaryDesc (Instr.incPair p).row 1 8 gxxxx) (microIncPair p) s := by
  cases p <;> rfl

theorem encode_incPair (p : Pair) : encode (.incPair p) = [byte (0x03 + 16 * p.code)] := by
  cases p <;> rfl

theorem exec_decPair_eq_engine (p : Pair) (s : State) :
    exec (.decPair p) s = engine (primaryDesc (Instr.decPair p).row 1 8 gxxxx) (microDecPair p) s := by
  cases p <;> rfl

theorem encode_decPair (p : Pair) : encode (.decPair p) = [byte (0x0B + 16 * p.code)] := by
  cases p <;> rfl

/-! ### The statement -/

/-- Settles O31: the word written is the sum modulo 2^16, where DEC adds 65535; only ADD's gate lets a flag change. -/
theorem sixteenBitAddAndStep : Obligations.SixteenBitAddAndStep := by
  intro p s
  have hadd := exec_of_parts (exec_addHL_eq_engine p s) rfl rfl (s.setPair_pc .HL _)
    (commit_add16 s.flags (s.pair .HL) (s.pair p))
  have hinc := exec_of_engine_flagless (exec_incPair_eq_engine p s) rfl (s.setPair_pc p _)
  have hdec := exec_of_engine_flagless (exec_decPair_eq_engine p s) rfl (s.setPair_pc p _)
  refine ⟨⟨encode_addHL p, encode_incPair p, encode_decPair p⟩, hadd, ?_, ?_⟩
  · rw [← add_one_eq_ofNat]
    exact hinc
  · rw [← sub_one_eq_ofNat]
    exact hdec

end Sys2Proof.Machine
end

section
/-! The rotates, shifts and bit operations (45_rotate_shift_bit.md): the model's shifts and masks as numbers, the flag
byte that each family's gate commits, and from these what a family does to its target, a register or the byte at HL. -/

namespace Sys2Proof.Machine

open Sys2Proof.Statements

/-! ### Single bits as numbers -/

theorem toNat_getLsbD (v : Byte) (i : Nat) : (v.getLsbD i).toNat = v.toNat / 2 ^ i % 2 :=
  Nat.toNat_testBit v.toNat i

theorem getLsbD_zero_eq_decide (v : Byte) : v.getLsbD 0 = decide (v.toNat % 2 = 1) :=
  Nat.testBit_zero v.toNat

theorem getLsbD_seven_eq_decide (v : Byte) : v.getLsbD 7 = decide (v.toNat / 128 = 1) := by
  have hbit : v.getLsbD 7 = decide (v.toNat / 2 ^ 7 % 2 = 1) := Nat.testBit_eq_decide_div_mod_eq
  have hone : v.toNat / 2 ^ 7 % 2 = 1 ↔ v.toNat / 128 = 1 := by omega
  rw [hbit, decide_eq_decide.2 hone]

theorem toNat_getLsbD_zero (v : Byte) : (v.getLsbD 0).toNat = v.toNat % 2 := by
  rw [toNat_getLsbD, Nat.pow_zero, Nat.div_one]

theorem toNat_getLsbD_seven (v : Byte) : (v.getLsbD 7).toNat = v.toNat / 128 := by
  rw [toNat_getLsbD]
  omega

theorem bitByte_shiftLeft (c : Bool) (i : Nat) : bitByte c <<< i = if c then BitVec.twoPow 8 i else 0#8 := by
  cases c with
  | false => exact BitVec.zero_shiftLeft i
  | true => exact (BitVec.twoPow_eq 8 i).symm

theorem and_twoPow_eq_bitByte (v : Byte) (i : Nat) : v &&& BitVec.twoPow 8 i = bitByte (v.getLsbD i) <<< i := by
  rw [BitVec.and_twoPow, bitByte_shiftLeft]

/-- A bit written into a place that holds 0 is a sum (R230). -/
theorem or_bitByte_eq_byte {v : Byte} {i : Nat} (hi : i < 8) (hv : v.getLsbD i = false) (c : Bool) :
    v ||| bitByte c <<< i = byte (v.toNat + c.toNat * 2 ^ i) := by
  have hdisjoint : v &&& BitVec.twoPow 8 i = 0#8 := by
    rw [BitVec.and_twoPow, hv]
    rfl
  rw [bitByte_shiftLeft]
  cases c with
  | false => simp [byte_toNat]
  | true =>
    rw [if_pos rfl, ← BitVec.add_eq_or_of_and_eq_zero v _ hdisjoint]
    apply BitVec.eq_of_toNat_eq
    rw [BitVec.toNat_add, BitVec.toNat_twoPow_of_lt hi, byte, BitVec.toNat_ofNat, Bool.toNat_true, Nat.one_mul]

/-! ### Rot in arithmetic (R230) -/

/-- A shift left, with a bit that enters at the bottom. -/
theorem shiftLeft_or_bitByte (v : Byte) (c : Bool) :
    v <<< 1 ||| bitByte c = byte (v.toNat * 2 % 256 + c.toNat) := by
  have hlow : (v <<< 1).getLsbD 0 = false := by simp
  have hshift : (v <<< 1).toNat = v.toNat * 2 % 256 := by rw [BitVec.toNat_shiftLeft, Nat.shiftLeft_eq]
  have hor := or_bitByte_eq_byte (by decide) hlow c
  rwa [BitVec.shiftLeft_zero, hshift, Nat.pow_zero, Nat.mul_one] at hor

/-- A shift right, with a bit that enters at the top. -/
theorem ushiftRight_or_bitByte (v : Byte) (c : Bool) :
    v >>> 1 ||| bitByte c <<< 7 = byte (v.toNat / 2 + c.toNat * 128) := by
  have hhigh : (v >>> 1).getLsbD 7 = false := by simp
  have hshift : (v >>> 1).toNat = v.toNat / 2 := by rw [BitVec.toNat_ushiftRight, Nat.shiftRight_eq_div_pow]
  have hor := or_bitByte_eq_byte (by decide) hhigh c
  rwa [hshift] at hor

theorem swapNibbles_eq_byte (v : Byte) :
    (v &&& 0x0F#8) <<< 4 ||| v >>> 4 = byte (v.toNat % 16 * 16 + v.toNat / 16) := by
  have hlow : (v &&& 0x0F#8).toNat = v.toNat % 16 := lowNibble_eq_mod v
  have hfits : (v.toNat % 16) <<< 4 % 2 ^ 8 = (v.toNat % 16) <<< 4 := by omega
  have hhigh : v.toNat / 16 < 2 ^ 4 := by omega
  have hor := Nat.shiftLeft_add_eq_or_of_lt hhigh (v.toNat % 16)
  rw [← byte_toNat (_ ||| _), BitVec.toNat_or, BitVec.toNat_shiftLeft, BitVec.toNat_ushiftRight, hlow, hfits,
    Nat.shiftRight_eq_div_pow, ← hor, Nat.shiftLeft_eq]

theorem rotate_fst (op : RotOp) (v : Byte) (c : Bool) : (rotate op v c).1 = byte (rotArith op v.toNat c).1 := by
  cases op with
  | rlc => exact (shiftLeft_or_bitByte v _).trans (by rw [toNat_getLsbD_seven]; rfl)
  | rl => exact shiftLeft_or_bitByte v c
  | sla => exact BitVec.or_zero.symm.trans (shiftLeft_or_bitByte v false)
  | rrc => exact (ushiftRight_or_bitByte v _).trans (by rw [toNat_getLsbD_zero]; rfl)
  | rr => exact ushiftRight_or_bitByte v c
  | srl => exact BitVec.or_zero.symm.trans (ushiftRight_or_bitByte v false)
  | sra =>
    have hsign : v &&& 0x80#8 = bitByte (v.getLsbD 7) <<< 7 := and_twoPow_eq_bitByte v 7
    simp only [rotate, rotArith]
    rw [hsign, ushiftRight_or_bitByte, toNat_getLsbD_seven]
  | swap => exact swapNibbles_eq_byte v

theorem rotate_snd (op : RotOp) (v : Byte) (c : Bool) : (rotate op v c).2 = (rotArith op v.toNat c).2 := by
  cases op with
  | rlc | rl | sla => exact getLsbD_seven_eq_decide v
  | rrc | rr | sra | srl => exact getLsbD_zero_eq_decide v
  | swap => rfl

theorem rotArith_fst_lt (op : RotOp) (v : Byte) (c : Bool) : (rotArith op v.toNat c).1 < 256 := by
  have hv := v.isLt
  have hc := c.toNat_le
  cases op <;> simp only [rotArith] <;> omega

/-! ### The accumulator rotates (R232 to R235) -/

/-- The gate `000C` takes nothing but the bit that leaves. -/
theorem commit_microRotA (op : RotOp) (s : State) :
    commit g000C s.flags (microRotA op s).flags = flagByte false false false (rotArith op s.a.toNat (cOf s)).2 := by
  rw [commit_eq_flagByte, ← rotate_snd]
  rfl

theorem exec_of_microRotA {i : Instr} {op : RotOp} {s : State}
    (hexec : exec i s = engine (primaryDesc i.row 1 4 g000C) (microRotA op) s) :
    exec i s = .next (finish { s with a := byte (rotArith op s.a.toNat (cOf s)).1 }
      (flagByte false false false (rotArith op s.a.toNat (cOf s)).2) (s.pc + 1) (fixedTicks s i 4)) := by
  have hstate : (microRotA op s).state = { s with a := byte (rotArith op s.a.toNat (cOf s)).1 } := by
    rw [← rotate_fst]
    rfl
  exact exec_of_parts hexec rfl hstate rfl (commit_microRotA op s)

/-! ### The CB table's rotates and shifts (R236 to R251) -/

/-- The ticks of an instruction that writes its target back (R231). -/
def writeBackTicks : Target8 → Nat
  | .reg _ => 8
  | .atHL => 16

/-- The effect string of each rot index: `Z00C`, and SWAP's `Z000`. -/
def rotGate (op : RotOp) : Gate := if op = .swap then gZ000 else gZ00C

theorem encode_rot (op : RotOp) (t : Target8) : encode (.rot op t) = [0xCB#8, byte (8 * op.code + t.code)] := by
  rcases t with r | _
  · cases op <;> cases r <;> rfl
  · cases op <;> rfl

theorem exec_rot_eq_engine (op : RotOp) (t : Target8) (s : State) :
    exec (.rot op t) s =
      engine (primaryDesc (Instr.rot op t).row 2 (writeBackTicks t) (rotGate op)) (microRot op t) s := by
  rcases t with r | _
  · cases op <;> cases r <;> rfl
  · cases op <;> rfl

/-- SWAP lets no bit leave, so its gate forces the C that the others compute. -/
theorem commit_rotateFlags (op : RotOp) (f0 : Flags) (v : Byte) (c : Bool) :
    commit (rotGate op) f0 (rotateFlags (rotate op v c)) =
      flagByte (decide ((rotArith op v.toNat c).1 = 0)) false false (rotArith op v.toNat c).2 := by
  have hz : (rotateFlags (rotate op v c)).z = decide ((rotArith op v.toNat c).1 = 0) := by
    rw [rotateFlags, rotate_fst, byte_beq_zero, Nat.mod_eq_of_lt (rotArith_fst_lt op v c)]
  rw [commit_eq_flagByte, ← hz, ← rotate_snd]
  cases op <;> rfl

theorem exec_rot (op : RotOp) (t : Target8) (s : State) :
    exec (.rot op t) s =
      .next (finish (writeTarget t (byte (rotArith op (readTarget t s).toNat (cOf s)).1) s)
        (flagByte (decide ((rotArith op (readTarget t s).toNat (cOf s)).1 = 0)) false false
          (rotArith op (readTarget t s).toNat (cOf s)).2)
        (s.pc + 2) (fixedTicks s (.rot op t) (writeBackTicks t))) := by
  have hf := commit_rotateFlags op s.flags (readTarget t s) (cOf s)
  rw [← rotate_fst]
  exact exec_of_parts (exec_rot_eq_engine op t s) rfl rfl (writeTarget_pc ..) hf

/-! ### BIT (R252, R253) -/

theorem encode_bit (b : Index8) (t : Target8) :
    encode (.bit b t) = [0xCB#8, byte (0x40 + 8 * b.toNat + t.code)] := by
  rcases t with r | _
  · cases b <;> cases r <;> rfl
  · cases b <;> rfl

theorem exec_bit_eq_engine (b : Index8) (t : Target8) (s : State) :
    exec (.bit b t) s =
      engine (primaryDesc (Instr.bit b t).row 2 (if t = .atHL then 12 else 8) gZ01x) (microBit b t) s := by
  rcases t with r | _
  · cases b <;> cases r <;> rfl
  · cases b <;> rfl

theorem not_getLsbD_eq_decide (v : Byte) (i : Nat) : (!v.getLsbD i) = decide (v.toNat / 2 ^ i % 2 = 0) := by
  rw [← toNat_getLsbD]
  cases v.getLsbD i <;> rfl

theorem commit_microBit (b : Index8) (t : Target8) (s : State) :
    commit gZ01x s.flags (microBit b t s).flags =
      flagByte (decide ((readTarget t s).toNat / 2 ^ b.toNat % 2 = 0)) false true (cOf s) := by
  rw [commit_eq_flagByte, ← not_getLsbD_eq_decide]
  rfl

/-! ### RES and SET (R254 to R257) -/

theorem encode_res (b : Index8) (t : Target8) :
    encode (.res b t) = [0xCB#8, byte (0x80 + 8 * b.toNat + t.code)] := by
  rcases t with r | _
  · cases b <;> cases r <;> rfl
  · cases b <;> rfl

theorem encode_set (b : Index8) (t : Target8) :
    encode (.set b t) = [0xCB#8, byte (0xC0 + 8 * b.toNat + t.code)] := by
  rcases t with r | _
  · cases b <;> cases r <;> rfl
  · cases b <;> rfl

theorem exec_res_eq_engine (b : Index8) (t : Target8) (s : State) :
    exec (.res b t) s = engine (primaryDesc (Instr.res b t).row 2 (writeBackTicks t) gxxxx) (microRes b t) s := by
  rcases t with r | _
  · cases b <;> cases r <;> rfl
  · cases b <;> rfl

theorem exec_set_eq_engine (b : Index8) (t : Target8) (s : State) :
    exec (.set b t) s = engine (primaryDesc (Instr.set b t).row 2 (writeBackTicks t) gxxxx) (microSet b t) s := by
  rcases t with r | _
  · cases b <;> cases r <;> rfl
  · cases b <;> rfl

theorem index8_toNat_lt (b : Index8) : b.toNat < 8 := by
  cases b <;> decide

theorem bitMask_eq_twoPow (b : Index8) : bitMask b = BitVec.twoPow 8 b.toNat :=
  (BitVec.twoPow_eq 8 b.toNat).symm

theorem toNat_and_bitMask (v : Byte) (b : Index8) :
    (v &&& bitMask b).toNat = v.toNat / 2 ^ b.toNat % 2 * 2 ^ b.toNat := by
  rw [bitMask_eq_twoPow, BitVec.and_twoPow, ← toNat_getLsbD]
  cases v.getLsbD b.toNat with
  | false => simp
  | true => rw [if_pos rfl, BitVec.toNat_twoPow_of_lt (index8_toNat_lt b), Bool.toNat_true, Nat.one_mul]

/-- Clearing the bits of a mask takes away what the byte holds under it. -/
theorem and_not_eq_sub (v m : Byte) : v &&& ~~~m = v - (v &&& m) := by
  have hdisjoint : (v &&& ~~~m) &&& (v &&& m) = 0#8 := by
    ext i
    simp +contextual
  have hparts : (v &&& ~~~m) ||| (v &&& m) = v := by
    ext i
    simp [← Bool.and_or_distrib_left]
  rw [BitVec.eq_sub_iff_add_eq, BitVec.add_eq_or_of_and_eq_zero _ _ hdisjoint, hparts]

theorem and_not_bitMask_eq_byte (v : Byte) (b : Index8) :
    v &&& ~~~(bitMask b) = byte (v.toNat - v.toNat / 2 ^ b.toNat % 2 * 2 ^ b.toNat) := by
  have hle : v &&& bitMask b ≤ v := Nat.and_le_left
  rw [and_not_eq_sub, ← toNat_and_bitMask, ← BitVec.toNat_sub_of_le hle, byte_toNat]

/-- A bit that is 0 is added; one that is 1 is written back unchanged. -/
theorem or_bitMask_eq_byte (v : Byte) (b : Index8) :
    v ||| bitMask b = byte (v.toNat + (1 - v.toNat / 2 ^ b.toNat % 2) * 2 ^ b.toNat) := by
  rw [← toNat_getLsbD]
  cases hbit : v.getLsbD b.toNat with
  | false => exact or_bitByte_eq_byte (index8_toNat_lt b) hbit true
  | true =>
    have hunder : v &&& bitMask b = bitMask b := by
      rw [bitMask_eq_twoPow, BitVec.and_twoPow, hbit, if_pos rfl]
    have hkept : v ||| bitMask b = v := by
      rw [← hunder]
      ext i
      simp +contextual
    rw [hkept, Bool.toNat_true, Nat.sub_self, Nat.zero_mul, Nat.add_zero, byte_toNat]

theorem exec_res (b : Index8) (t : Target8) (s : State) :
    exec (.res b t) s =
      .next (finish
        (writeTarget t
          (byte ((readTarget t s).toNat - (readTarget t s).toNat / 2 ^ b.toNat % 2 * 2 ^ b.toNat)) s)
        (keptF s) (s.pc + 2) (fixedTicks s (.res b t) (writeBackTicks t))) := by
  rw [← and_not_bitMask_eq_byte]
  exact exec_of_engine_flagless (exec_res_eq_engine b t s) rfl (writeTarget_pc ..)

theorem exec_set (b : Index8) (t : Target8) (s : State) :
    exec (.set b t) s =
      .next (finish
        (writeTarget t
          (byte ((readTarget t s).toNat + (1 - (readTarget t s).toNat / 2 ^ b.toNat % 2) * 2 ^ b.toNat)) s)
        (keptF s) (s.pc + 2) (fixedTicks s (.set b t) (writeBackTicks t))) := by
  rw [← or_bitMask_eq_byte]
  exact exec_of_engine_flagless (exec_set_eq_engine b t s) rfl (writeTarget_pc ..)

/-! ### The statements -/

/-- Settles O32: each is Rot on A behind the gate `000C`. -/
theorem accumulatorRotatesForceZeroFlag : Obligations.AccumulatorRotatesForceZeroFlag := by
  intro s
  refine ⟨⟨rfl, rfl, rfl, rfl⟩, fun q hq => ?_⟩
  simp only [List.mem_cons, List.not_mem_nil, or_false] at hq
  obtain rfl | rfl | rfl | rfl := hq
  all_goals exact exec_of_microRotA rfl

/-- Settles O33: the target is the register. -/
theorem rotateShiftSwapRegister : Obligations.RotateShiftSwapRegister :=
  fun op r s => ⟨encode_rot op (.reg r), exec_rot op (.reg r) s⟩

/-- Settles O34: the target is the byte at HL, written once. -/
theorem rotateShiftSwapAtHL : Obligations.RotateShiftSwapAtHL :=
  fun op s hwf => ⟨encode_rot op .atHL, completesStoring_of_memWrite (exec_rot op .atHL s) hwf rfl rfl⟩

/-- Settles O35: the microcode leaves the state as it was, and the gate keeps C. -/
theorem bitTestSetsFlagsAndWritesNothing : Obligations.BitTestSetsFlagsAndWritesNothing := by
  intro b t s
  have hexec := exec_of_parts (exec_bit_eq_engine b t s) rfl rfl rfl (commit_microBit b t s)
  refine ⟨encode_bit b t, ?_⟩
  cases t <;> exact hexec

/-- Settles O36: the target is the register. -/
theorem resetAndSetBitOfRegister : Obligations.ResetAndSetBitOfRegister :=
  fun b r s => ⟨⟨encode_res b (.reg r), encode_set b (.reg r)⟩, exec_res b (.reg r) s, exec_set b (.reg r) s⟩

/-- Settles O37: the target is the byte at HL, written once whether or not its value changes. -/
theorem resetAndSetBitAtHL : Obligations.ResetAndSetBitAtHL := by
  intro b s hwf
  have hcode (n : Nat) : n + 8 * b.toNat + 6 = n + 6 + 8 * b.toNat := Nat.add_right_comm n _ 6
  have hres : encode (.res b .atHL) = [0xCB#8, byte (0x86 + 8 * b.toNat)] := hcode 0x80 ▸ encode_res b .atHL
  have hset : encode (.set b .atHL) = [0xCB#8, byte (0xC6 + 8 * b.toNat)] := hcode 0xC0 ▸ encode_set b .atHL
  exact ⟨⟨hres, hset⟩, completesStoring_of_memWrite (exec_res b .atHL s) hwf rfl rfl,
    completesStoring_of_memWrite (exec_set b .atHL s) hwf rfl rfl⟩

end Sys2Proof.Machine
end

section
/-! Control transfer (46_control_flow.md): what the engine answers for a taken branch and for one whose condition
fails, then what each instruction's branch leaves and where it goes. -/

namespace Sys2Proof.Machine

open Sys2Proof.Statements

/-! ### A branch by its outcome (R105, R107, R270) -/

/-- The model's condition on F0 is the statements' one on the bits of F. -/
theorem condHolds_flags (cc : Cond) (s : State) : condHolds cc s.flags = condition cc s := by
  cases cc <;> rfl

/-- No branch's row changes a flag. -/
theorem commit_flags_unaffected (s : State) (p : Flags) : commit gxxxx s.flags p = keptF s :=
  commit_unaffected s.f p

section
variable {i : Instr} {length taken notTaken : Nat} {cc : Cond} {micro : Microcode} {s t : State} {target : Word}

/-- A taken branch goes to its target at the taken cost. -/
theorem exec_of_branch (hexec : exec i s = engine (branchDesc i.row length taken notTaken) micro s)
    (hbranch : micro s = MicroResult.branch t target) :
    exec i s = .next (finish t (keptF s) target (branchTicks s i taken notTaken true)) := by
  rw [hexec, engine_next, hbranch, ← commit_flags_unaffected s {}]
  rfl

theorem exec_of_microIf_taken
    (hexec : exec i s = engine (branchDesc i.row length taken notTaken) (microIf cc micro) s)
    (hbranch : micro s = MicroResult.branch t target) (hc : condition cc s = true) :
    exec i s = .next (finish t (keptF s) target (branchTicks s i taken notTaken true)) := by
  have hmicro := microIf_taken ((condHolds_flags cc s).trans hc) micro
  exact exec_of_branch hexec (hmicro.trans hbranch)

/-- A branch whose condition fails only advances pc, at the not-taken cost. -/
theorem exec_of_microIf_notTaken
    (hexec : exec i s = engine (branchDesc i.row length taken notTaken) (microIf cc micro) s)
    (hc : condition cc s = false) :
    exec i s =
      .next (finish s (keptF s) (s.pc + BitVec.ofNat 16 length) (branchTicks s i taken notTaken false)) := by
  have hmicro := microIf_notTaken ((condHolds_flags cc s).trans hc) micro
  rw [hexec, engine_next, hmicro, ← commit_flags_unaffected s {}]
  rfl

/-- A conditional branch that writes nothing but pc. -/
theorem exec_of_microIf_jump
    (hexec : exec i s = engine (branchDesc i.row length taken notTaken) (microIf cc micro) s)
    (hbranch : micro s = MicroResult.branch s target) :
    exec i s =
      .next (finish s (keptF s) (if condition cc s then target else s.pc + BitVec.ofNat 16 length)
        (branchTicks s i taken notTaken (condition cc s))) := by
  cases hc : condition cc s with
  | true => exact exec_of_microIf_taken hexec hbranch hc
  | false => exact exec_of_microIf_notTaken hexec hc

end

/-! ### What the branches leave, and their targets -/

/-- A displacement is added to the next instruction's address as SP's offset is added to SP (R153, R274). -/
theorem jrTarget_eq_plusSigned (pc : Word) (e : Byte) : jrTarget pc e = plusSigned (pc + 2) e :=
  addSpOffset_fst (pc + 2#16) e

theorem microJr_eq_branch (e : Byte) (s : State) :
    microJr e s = MicroResult.branch s (plusSigned (s.pc + 2) e) := by
  rw [microJr, jrTarget_eq_plusSigned]

theorem microRet_eq_branch (s : State) :
    microRet s = MicroResult.branch { s with sp := s.sp + 2 } (poppedWord s) := by
  rw [microRet, State.pop16_frame]
  rfl

theorem microReti_eq_branch (s : State) :
    microReti s = MicroResult.branch { s with sp := s.sp + 2, ime := true } (poppedWord s) := by
  rw [microReti, State.returnFromInterrupt, State.pop16_frame]
  rfl

theorem microRst_eq_branch (t : Index8) (s : State) :
    microRst t s = MicroResult.branch (s.push16 (s.pc + 1)) (BitVec.ofNat 16 (8 * t.toNat)) := by
  rw [Nat.mul_comm]
  rfl

/-- An instruction whose only write to memory is one push (R110). -/
theorem completesStoring_of_push16 {i : Instr} {s : State} {v pc : Word} {f : Byte} {ticks : Nat}
    (hexec : exec i s = .next (finish (s.push16 v) f pc ticks)) (hwf : s.mem.wf = true) :
    CompletesStoring i s (finish { s with sp := s.sp - 2 } f pc ticks) (pushedCells s v) :=
  completesStoring_of_stores hexec (s.push16_frame v) (stores_push16 hwf v)

/-! ### The families' microcode and bytes -/

theorem exec_jpCond_eq_engine (cc : Cond) (addr : Word) (s : State) :
    exec (.jpCond cc addr) s =
      engine (branchDesc (Instr.jpCond cc addr).row 3 16 12) (microIf cc (microJp addr)) s := by
  cases cc <;> rfl

theorem encode_jpCond (cc : Cond) (addr : Word) :
    encode (.jpCond cc addr) = [byte (0xC2 + 8 * cc.code), lo8 addr, hi8 addr] := by
  cases cc <;> rfl

theorem exec_jrCond_eq_engine (cc : Cond) (e : Byte) (s : State) :
    exec (.jrCond cc e) s = engine (branchDesc (Instr.jrCond cc e).row 2 12 8) (microIf cc (microJr e)) s := by
  cases cc <;> rfl

theorem encode_jrCond (cc : Cond) (e : Byte) : encode (.jrCond cc e) = [byte (0x20 + 8 * cc.code), e] := by
  cases cc <;> rfl

theorem exec_callCond_eq_engine (cc : Cond) (addr : Word) (s : State) :
    exec (.callCond cc addr) s =
      engine (branchDesc (Instr.callCond cc addr).row 3 24 12) (microIf cc (microCall addr)) s := by
  cases cc <;> rfl

theorem encode_callCond (cc : Cond) (addr : Word) :
    encode (.callCond cc addr) = [byte (0xC4 + 8 * cc.code), lo8 addr, hi8 addr] := by
  cases cc <;> rfl

theorem exec_retCond_eq_engine (cc : Cond) (s : State) :
    exec (.retCond cc) s = engine (branchDesc (Instr.retCond cc).row 1 20 8) (microIf cc microRet) s := by
  cases cc <;> rfl

theorem encode_retCond (cc : Cond) : encode (.retCond cc) = [byte (0xC0 + 8 * cc.code)] := by
  cases cc <;> rfl

theorem exec_rst_eq_engine (t : Index8) (s : State) :
    exec (.rst t) s = engine (branchDesc (Instr.rst t).row 1 16 16) (microRst t) s := by
  cases t <;> rfl

theorem encode_rst (t : Index8) : encode (.rst t) = [byte (0xC7 + 8 * t.toNat)] := by
  cases t <;> rfl

/-! ### The statements -/

/-- Settles O38: the three are branches that leave the state they start from. -/
theorem unconditionalJumpsSetPc : Obligations.UnconditionalJumpsSetPc := by
  intro s addr e
  exact ⟨⟨rfl, rfl, rfl⟩, exec_of_branch (length := 3) (micro := microJp addr) rfl rfl,
    exec_of_branch (length := 1) (micro := microJpHL) rfl rfl,
    exec_of_branch (length := 2) rfl (microJr_eq_branch e s)⟩

/-- Settles O39: each is its unconditional jump behind the condition. -/
theorem conditionalJumpsFollowTheirCondition : Obligations.ConditionalJumpsFollowTheirCondition := by
  intro cc s addr e
  exact ⟨⟨encode_jpCond cc addr, encode_jrCond cc e⟩, exec_of_microIf_jump (exec_jpCond_eq_engine cc addr s) rfl,
    exec_of_microIf_jump (exec_jrCond_eq_engine cc e s) (microJr_eq_branch e s)⟩

/-- Settles O40: a call is one push and a branch, behind the condition or not. -/
theorem callsPushReturnAddressAndJump : Obligations.CallsPushReturnAddressAndJump := by
  intro cc s addr hwf
  have hcall := exec_of_branch (i := .call_a16 addr) (length := 3) (taken := 24) (notTaken := 24)
    (micro := microCall addr) (s := s) rfl rfl
  have hcond := exec_callCond_eq_engine cc addr s
  exact ⟨⟨rfl, encode_callCond cc addr⟩, completesStoring_of_push16 hcall hwf,
    fun hc => completesStoring_of_push16 (exec_of_microIf_taken hcond rfl hc) hwf,
    fun hc => exec_of_microIf_notTaken hcond hc⟩

/-- Settles O41: a return is one pop and a branch; RETI sets IME beside it. -/
theorem returnsPopPc : Obligations.ReturnsPopPc := by
  intro cc s
  refine ⟨⟨rfl, rfl, encode_retCond cc⟩, exec_of_branch (length := 1) rfl (microRet_eq_branch s),
    exec_of_branch (length := 1) rfl (microReti_eq_branch s), ?_⟩
  have hcond := exec_retCond_eq_engine cc s
  cases hc : condition cc s with
  | true => exact exec_of_microIf_taken hcond (microRet_eq_branch s) hc
  | false => exact exec_of_microIf_notTaken hcond hc

/-- Settles O42: a restart is one push and a branch to eight times its index. -/
theorem restartPushesAndJumpsToItsVector : Obligations.RestartPushesAndJumpsToItsVector := by
  intro t s hwf
  exact ⟨encode_rst t,
    completesStoring_of_push16 (exec_of_branch (exec_rst_eq_engine t s) (microRst_eq_branch t s)) hwf⟩

end Sys2Proof.Machine
end

section
/-! The system instructions (47_system.md): those that set IME or HALTED, the CB table that the prefix selects from, and
the unassigned opcodes. -/

namespace Sys2Proof.Machine

open Sys2Proof.Statements

/-! ### The CB table by the fields of its byte (R81, R84)

The decoder has the CB table entry by entry, the prefix reads it off the fields x, y and z of the byte. -/

/-- The CB instruction that the fields of its second byte name. -/
def cbInstr (n : Nat) : Instr :=
  match n / 64 with
  | 0 => .rot (rotOpOf (n / 8 % 8)) (target8Of (n % 8))
  | 1 => .bit (index8Of (n / 8 % 8)) (target8Of (n % 8))
  | 2 => .res (index8Of (n / 8 % 8)) (target8Of (n % 8))
  | _ => .set (index8Of (n / 8 % 8)) (target8Of (n % 8))

theorem decodeCB_eq_cbInstr (c : Byte) : decodeCB c = cbInstr c.toNat := by
  revert c
  decide

theorem row_cbInstr (c : Byte) : (cbInstr c.toNat).row = 256 + c.toNat := by
  revert c
  decide

theorem writeBackTicks_eq_ite (t : Target8) : writeBackTicks t = if t = .atHL then 16 else 8 := by
  cases t <;> rfl

/-- A CB instruction is the engine's run of the entry of its second byte. -/
theorem exec_decodeCB_eq_engine (c : Byte) (s : State) :
    exec (decodeCB c) s = engine (cbEntry c).1 (cbEntry c).2 s := by
  have hrow := row_cbInstr c
  have hgroups : c.toNat / 64 = 0 ∨ c.toNat / 64 = 1 ∨ c.toNat / 64 = 2 ∨ c.toNat / 64 = 3 := by omega
  rw [decodeCB_eq_cbInstr]
  obtain hx | hx | hx | hx := hgroups <;> simp only [cbInstr, cbEntry, hx] at hrow ⊢
  · rw [exec_rot_eq_engine, hrow, writeBackTicks_eq_ite]
    rfl
  · rw [exec_bit_eq_engine, hrow]
    rfl
  · rw [exec_res_eq_engine, hrow, writeBackTicks_eq_ite]
    rfl
  · rw [exec_set_eq_engine, hrow, writeBackTicks_eq_ite]
    rfl

/-- BIT writes nothing, every other entry its target alone. -/
theorem cbEntry_fault (c : Byte) (s : State) : ((cbEntry c).2 s).state.fault = s.fault := by
  simp only [cbEntry]
  split
  · exact writeTarget_fault ..
  · rfl
  · exact writeTarget_fault ..
  · exact writeTarget_fault ..

/-! ### DI and EI (R293, R294), and what IME does to Vector(v) (R311) -/

theorem exec_di (s : State) :
    exec .di s = .next (finish { s with ime := false } (keptF s) (s.pc + 1) (fixedTicks s .di 4)) :=
  exec_of_engine_flagless (length := 1) (micro := microSetIme false) rfl rfl rfl

theorem exec_ei (s : State) :
    exec .ei s = .next (finish { s with ime := true } (keptF s) (s.pc + 1) (fixedTicks s .ei 4)) :=
  exec_of_engine_flagless (length := 1) (micro := microSetIme true) rfl rfl rfl

theorem vectorEnabled_of_ime_false {s : State} (h : s.ime = false) (v : Word) : s.vectorEnabled v = false := by
  simp [State.vectorEnabled, h]

theorem vectorEnabled_of_ime_true {s : State} {v : Word} (hf : s.fault = none) (h : s.ime = true)
    (hv : v ∈ s.launch.intVectors) : s.vectorEnabled v = true := by
  simp [State.vectorEnabled, hf, h, hv]

/-! ### The unassigned opcodes (R296, R301) -/

theorem exec_invalidOpcode {q : Instr × Byte} (hq : q ∈ Instr.invalidOpcodes) (s : State) :
    exec q.1 s = raiseInvalidOpcode q.2 s := by
  simp only [Instr.invalidOpcodes, List.mem_cons, List.not_mem_nil, or_false] at hq
  obtain rfl | rfl | rfl | rfl | rfl | rfl | rfl | rfl | rfl | rfl | rfl := hq
  all_goals rfl

/-- A recorded fault ends the run: no move and no instruction follows it. -/
theorem step_of_fault {s : State} {r : Fault} (h : s.fault = some r) : step s = .fault r := by
  simp [step, boundaryStep, h]

/-! ### The statements -/

/-- Settles O43: each is one sequential microcode behind the gate `----`; after DI and EI, IME decides about Vector. -/
theorem nopInterruptEnableAndHaltInstructions : Obligations.NopInterruptEnableAndHaltInstructions := by
  intro s n
  refine ⟨⟨rfl, rfl, rfl, rfl, rfl⟩, exec_of_engine_flagless (length := 1) (micro := microNop) rfl rfl rfl, exec_di s,
    exec_ei s, exec_of_engine_flagless (length := 1) (micro := microHalt) rfl rfl rfl,
    exec_of_engine_flagless (length := 2) (micro := microHalt) rfl rfl rfl, ?_, ?_⟩
  · intro t v ht
    cases (exec_di s).symm.trans ht
    exact vectorEnabled_of_ime_false rfl v
  · intro t v ht hf hv
    cases (exec_ei s).symm.trans ht
    exact vectorEnabled_of_ime_true hf rfl hv

/-- Settles O44: the prefix runs the engine on the entry that the byte selects, as that entry's instruction does. -/
theorem prefixRunsTheSelectedCbEntry : Obligations.PrefixRunsTheSelectedCbEntry := by
  intro s
  exact ⟨_, rfl, exec_decodeCB_eq_engine _ s, cbEntry_fault _ s⟩

/-- Settles O45: each unassigned opcode raises its own byte, and the fault it records ends the run. -/
theorem invalidOpcodeFaultsPrecisely : Obligations.InvalidOpcodeFaultsPrecisely := by
  intro s q hq
  have hencode : ∀ q ∈ Instr.invalidOpcodes, encode q.1 = [q.2] := by decide
  exact ⟨hencode q hq, exec_invalidOpcode hq s, step_of_fault rfl⟩

end Sys2Proof.Machine
end

section
/-! What `exec` is made of, said once (40_execution_engine.md R100): the engine around one of the core's microcodes, or the
fault of an unassigned opcode. An invariant of every instruction is proved over the microcodes. -/

namespace Sys2Proof.Machine

/-- The microcodes of the core. -/
inductive IsMicrocode : Microcode → Prop where
  | nop : IsMicrocode microNop
  | halt : IsMicrocode microHalt
  | setIme (on : Bool) : IsMicrocode (microSetIme on)
  | ld8 (dst : Dest8) (src : Source8) : IsMicrocode (microLd8 dst src)
  | ldPairImm (p : Pair) (nn : Word) : IsMicrocode (microLdPairImm p nn)
  | storeSP (addr : Word) : IsMicrocode (microStoreSP addr)
  | ldSPHL : IsMicrocode microLdSPHL
  | ldHLSP (e : Byte) : IsMicrocode (microLdHLSP e)
  | push (p : StackPair) : IsMicrocode (microPush p)
  | pop (p : Pair) : IsMicrocode (microPop p)
  | popAF : IsMicrocode microPopAF
  | alu (op : AluOp) (src : AluSource) : IsMicrocode (microAlu op src)
  | inc8 (t : Target8) : IsMicrocode (microInc8 t)
  | dec8 (t : Target8) : IsMicrocode (microDec8 t)
  | daa : IsMicrocode microDaa
  | cpl : IsMicrocode microCpl
  | scf : IsMicrocode microScf
  | ccf : IsMicrocode microCcf
  | addHL (p : Pair) : IsMicrocode (microAddHL p)
  | incPair (p : Pair) : IsMicrocode (microIncPair p)
  | decPair (p : Pair) : IsMicrocode (microDecPair p)
  | addSP (e : Byte) : IsMicrocode (microAddSP e)
  | rotA (op : RotOp) : IsMicrocode (microRotA op)
  | rot (op : RotOp) (t : Target8) : IsMicrocode (microRot op t)
  | bit (b : Index8) (t : Target8) : IsMicrocode (microBit b t)
  | res (b : Index8) (t : Target8) : IsMicrocode (microRes b t)
  | set (b : Index8) (t : Target8) : IsMicrocode (microSet b t)
  | jp (addr : Word) : IsMicrocode (microJp addr)
  | jpHL : IsMicrocode microJpHL
  | jr (e : Byte) : IsMicrocode (microJr e)
  | call (addr : Word) : IsMicrocode (microCall addr)
  | ret : IsMicrocode microRet
  | reti : IsMicrocode microReti
  | rst (t : Index8) : IsMicrocode (microRst t)
  | guarded (cc : Cond) {branch : Microcode} (h : IsMicrocode branch) : IsMicrocode (microIf cc branch)

theorem isMicrocode_cbEntry (c : Byte) : IsMicrocode (cbEntry c).2 := by
  simp only [cbEntry]
  split
  · exact .rot ..
  · exact .bit ..
  · exact .res ..
  · exact .set ..

/-- Everything that a meaning is: the engine around a microcode, the fault of an unassigned opcode, or PREFIX CB, whose
microcode depends on the state. A meaning's definition names its microcode, and the head of that name is the constructor
that applies; only the conditional branches are named by what they abbreviate. -/
theorem exec_cases (i : Instr) :
    (∃ d micro, IsMicrocode micro ∧ ∀ s, exec i s = engine d micro s) ∨
      (∃ opcode, ∀ s, exec i s = raiseInvalidOpcode opcode s) ∨
      (∀ s, exec i s = execPrefix_CB s) := by
  cases i
  case prefix_CB => exact .inr (.inr fun _ => rfl)
  case invalid_D3 | invalid_DB | invalid_DD | invalid_E3 | invalid_E4 | invalid_EB | invalid_EC | invalid_ED |
      invalid_F4 | invalid_FC | invalid_FD => exact .inr (.inl ⟨_, fun _ => rfl⟩)
  case jp_NZ_a16 | jp_Z_a16 | jp_NC_a16 | jp_C_a16 => exact .inl ⟨_, _, .guarded _ (.jp _), fun _ => rfl⟩
  case jr_NZ_r8 | jr_Z_r8 | jr_NC_r8 | jr_C_r8 => exact .inl ⟨_, _, .guarded _ (.jr _), fun _ => rfl⟩
  case call_NZ_a16 | call_Z_a16 | call_NC_a16 | call_C_a16 =>
    exact .inl ⟨_, _, .guarded _ (.call _), fun _ => rfl⟩
  case ret_NZ | ret_Z | ret_NC | ret_C => exact .inl ⟨_, _, .guarded _ .ret, fun _ => rfl⟩
  all_goals exact .inl ⟨_, _, by with_reducible constructor, fun _ => rfl⟩

end Sys2Proof.Machine
end

section
/-! Timing (70_reset_and_hazards.md R352): taking the clock and the timing parameters away commutes with every operation of
the core, up to the charge of ticks itself, which is taken away with them. -/

namespace Sys2Proof.Machine

/-! ### Reads of a state whose timing is taken away -/

@[simp] theorem State.withoutTiming_pair (s : State) (p : Pair) : s.withoutTiming.pair p = s.pair p := rfl
@[simp] theorem State.withoutTiming_stackPair (s : State) (p : StackPair) :
    s.withoutTiming.stackPair p = s.stackPair p := rfl
@[simp] theorem State.withoutTiming_sp (s : State) : s.withoutTiming.sp = s.sp := rfl
@[simp] theorem State.withoutTiming_pc (s : State) : s.withoutTiming.pc = s.pc := rfl
@[simp] theorem State.withoutTiming_flags (s : State) : s.withoutTiming.flags = s.flags := rfl
@[simp] theorem readTarget_withoutTiming (t : Target8) (s : State) :
    readTarget t s.withoutTiming = readTarget t s := rfl
@[simp] theorem Source8.read_withoutTiming_fst (src : Source8) (s : State) :
    (src.read s.withoutTiming).1 = (src.read s).1 := by cases src <;> rfl

/-! ### Writes to it -/

@[simp] theorem State.withoutTiming_setReg8 (s : State) (r : Reg8) (v : Byte) :
    s.withoutTiming.setReg8 r v = (s.setReg8 r v).withoutTiming := by cases r <;> rfl
@[simp] theorem State.withoutTiming_setPair (s : State) (p : Pair) (v : Word) :
    s.withoutTiming.setPair p v = (s.setPair p v).withoutTiming := by cases p <;> rfl

@[simp] theorem State.withoutTiming_memWrite (s : State) (a : Word) (v : Byte) :
    s.withoutTiming.memWrite a v = (s.memWrite a v).withoutTiming := by
  simp only [State.memWrite, apply_ite State.withoutTiming]
  rfl

@[simp] theorem State.withoutTiming_memWrite16 (s : State) (a v : Word) :
    s.withoutTiming.memWrite16 a v = (s.memWrite16 a v).withoutTiming := by
  simp only [State.memWrite16, State.withoutTiming_memWrite]

@[simp] theorem State.withoutTiming_push16 (s : State) (v : Word) :
    s.withoutTiming.push16 v = (s.push16 v).withoutTiming := by
  simp only [State.push16_eq, State.withoutTiming_memWrite, State.withoutTiming_sp]
  rfl

@[simp] theorem State.withoutTiming_pop16 (s : State) :
    s.withoutTiming.pop16 = (s.pop16.1, s.pop16.2.withoutTiming) := rfl

@[simp] theorem writeTarget_withoutTiming (t : Target8) (v : Byte) (s : State) :
    writeTarget t v s.withoutTiming = (writeTarget t v s).withoutTiming := by
  cases t with
  | reg r => exact s.withoutTiming_setReg8 r v
  | atHL => exact s.withoutTiming_memWrite (s.pair .HL) v

@[simp] theorem Source8.read_withoutTiming_snd (src : Source8) (s : State) :
    (src.read s.withoutTiming).2 = (src.read s).2.withoutTiming := by cases src <;> rfl

@[simp] theorem Dest8.write_withoutTiming (dst : Dest8) (v : Byte) (s : State) :
    dst.write v s.withoutTiming = (dst.write v s).withoutTiming := by
  cases dst with
  | reg r => exact s.withoutTiming_setReg8 r v
  | atPair p => exact s.withoutTiming_memWrite (s.pair p) v
  | atAddr addr => exact s.withoutTiming_memWrite addr v
  | ioPort n => exact s.withoutTiming_memWrite (ioAddress n) v
  | ioPortC => exact s.withoutTiming_memWrite (ioAddress s.c) v
  | autoInc => exact (s.setPair .HL (s.pair .HL + 1#16)).withoutTiming_memWrite (s.pair .HL) v
  | autoDec => exact (s.setPair .HL (s.pair .HL - 1#16)).withoutTiming_memWrite (s.pair .HL) v

/-! ### The microcodes -/

/-- A microcode's result with the timing of its state taken away. -/
def MicroResult.withoutTiming (r : MicroResult) : MicroResult := { r with state := r.state.withoutTiming }

@[simp] theorem MicroResult.branch_withoutTiming (s : State) (target : Word) :
    MicroResult.branch s.withoutTiming target = (MicroResult.branch s target).withoutTiming := rfl

/-- Whatever a microcode writes, it neither reads nor writes timing. -/
theorem IsMicrocode.withoutTiming {micro : Microcode} (h : IsMicrocode micro) (s : State) :
    micro s.withoutTiming = (micro s).withoutTiming := by
  induction h with
  | nop | halt | setIme | ldSPHL | ldHLSP | popAF | daa | cpl | scf | ccf | addHL | addSP | rotA | bit | jp | jpHL | jr
  | ret | reti => rfl
  | alu op => cases op <;> rfl
  | ldPairImm | incPair | decPair | pop =>
    simp [microLdPairImm, microIncPair, microDecPair, microPop, MicroResult.withoutTiming]
  | inc8 | dec8 | rot | res | set =>
    simp [microInc8, microDec8, microRot, microRes, microSet, MicroResult.withoutTiming]
  | ld8 | storeSP | push => simp [microLd8, microStoreSP, microPush, MicroResult.withoutTiming]
  | call | rst => simp [microCall, microRst]
  | guarded cc _ ih =>
    simp only [microIf, State.withoutTiming_flags, ih]
    split <;> rfl

/-! ### One transition -/

/-- What a step answers, with the timing of the next state taken away. -/
def outcomeWithoutTiming : StepResult → StepResult
  | .next t => .next t.withoutTiming
  | .fault r => .fault r
  | .refused r => .refused r

theorem outcomeWithoutTiming_eq_next {r : StepResult} {u : State} (h : outcomeWithoutTiming r = .next u) :
    ∃ t, r = .next t ∧ t.withoutTiming = u := by
  cases r with
  | next t => exact ⟨t, rfl, Host.Outcome.next.inj h⟩
  | fault | refused => cases h

theorem outcomeWithoutTiming_eq_fault {r : StepResult} {e : Fault} (h : outcomeWithoutTiming r = .fault e) :
    r = .fault e := by
  cases r with
  | next | refused => cases h
  | fault => exact h

/-- The engine charges ticks from timing and takes nothing else from it. -/
theorem engine_withoutTiming (d : Descriptor) {micro : Microcode} (h : IsMicrocode micro) (s : State) :
    outcomeWithoutTiming (engine d micro s.withoutTiming) = outcomeWithoutTiming (engine d micro s) := by
  rw [engine_next, engine_next, h.withoutTiming]
  rfl

theorem exec_withoutTiming (i : Instr) (s : State) :
    outcomeWithoutTiming (exec i s.withoutTiming) = outcomeWithoutTiming (exec i s) := by
  obtain ⟨d, micro, hmicro, hexec⟩ | ⟨opcode, hexec⟩ | hexec := exec_cases i <;> rw [hexec, hexec]
  · exact engine_withoutTiming d hmicro s
  · rfl
  · exact engine_withoutTiming _ (isMicrocode_cbEntry _) s

theorem coreStep_of_running {s : State} (h : s.halted = false) : coreStep s = exec s.fetch s :=
  if_neg (by simp [h])

theorem coreStep_withoutTiming (s : State) :
    outcomeWithoutTiming (coreStep s.withoutTiming) = outcomeWithoutTiming (coreStep s) := by
  cases hhalted : s.halted with
  | true =>
    rw [coreStep_of_halted hhalted, coreStep_of_halted (s := s.withoutTiming) hhalted]
    rfl
  | false =>
    rw [coreStep_of_running hhalted, coreStep_of_running (s := s.withoutTiming) hhalted]
    exact exec_withoutTiming s.fetch s

theorem dispatchInterrupt_withoutTiming (s : State) (v : Word) :
    (s.withoutTiming.dispatchInterrupt v).withoutTiming = (s.dispatchInterrupt v).withoutTiming := by
  have hpush := State.withoutTiming_push16 { s with ime := false, halted := false } s.pc
  have hjump := congrArg (fun t : State => State.withoutTiming { t with pc := v }) hpush
  exact hjump

theorem boundaryMove_withoutTiming (m : CollaboratorMove) (s : State) :
    outcomeWithoutTiming (boundaryMove m s.withoutTiming) = outcomeWithoutTiming (boundaryMove m s) := by
  have hvector (v : Word) : s.withoutTiming.vectorEnabled v = s.vectorEnabled v := rfl
  have hwake : s.withoutTiming.wakeEnabled = s.wakeEnabled := rfl
  cases m with
  | pass => exact coreStep_withoutTiming s
  | vector v =>
    simp only [boundaryMove, hvector]
    split
    · exact congrArg Host.Outcome.next (dispatchInterrupt_withoutTiming s v)
    · exact coreStep_withoutTiming s
  | wake =>
    simp only [boundaryMove, hwake]
    split
    · rfl
    · exact coreStep_withoutTiming s

/-- A step depends on timing in the ticks of its next state alone. -/
theorem step_withoutTiming (s : State) :
    outcomeWithoutTiming (step s.withoutTiming) = outcomeWithoutTiming (step s) := by
  cases hfault : s.fault with
  | none =>
    rw [step_eq_boundaryMove hfault, step_eq_boundaryMove (s := s.withoutTiming) hfault]
    exact boundaryMove_withoutTiming s.schedule.head { s with schedule := s.schedule.tail }
  | some r => rw [step_of_fault hfault, step_of_fault (s := s.withoutTiming) hfault]

/-! ### The statement -/

/-- Settles O57: both states step as the one state does that is left when their timing is taken away. -/
theorem timingInfluencesOnlyTicks : Obligations.TimingInfluencesOnlyTicks := by
  intro s s' hagree
  have hsame : outcomeWithoutTiming (step s') = outcomeWithoutTiming (step s) := by
    rw [← step_withoutTiming s', ← hagree, step_withoutTiming]
  refine ⟨fun t hstep => ?_, fun r hstep => ?_⟩ <;> rw [hstep] at hsame
  · obtain ⟨t', hstep', htiming⟩ := outcomeWithoutTiming_eq_next hsame
    exact ⟨t', hstep', htiming.symm⟩
  · exact outcomeWithoutTiming_eq_fault hsame

end Sys2Proof.Machine
end

section
/-! Decoding and encoding (30_encoding.md): the decoder's tables hold each instruction at the entry of its own bytes, so
decoding and encoding undo each other, and any three bytes hold one instruction. -/

namespace Sys2Proof.Machine

open Sys2Proof.Statements

/-! ### The halves of a word that is put together (R10) -/

@[simp] theorem lo8_cat16 (h l : Byte) : lo8 (cat16 h l) = l := by
  apply BitVec.eq_of_toNat_eq
  simp only [lo8_eq_byte, toNat_cat16, byte, BitVec.toNat_ofNat]
  omega

@[simp] theorem hi8_cat16 (h l : Byte) : hi8 (cat16 h l) = h := by
  apply BitVec.eq_of_toNat_eq
  simp only [hi8_eq_byte, toNat_cat16, byte, BitVec.toNat_ofNat]
  omega

/-! ### The decoder by the length of the first byte (R86) -/

theorem decode_cons_of_length_one {op : Byte} (h : instrLength op = 1) (rest : List Byte) :
    decode (op :: rest) = .ok (decode3 op 0 0) rest := by
  simp only [decode, h]

theorem decode_cons_of_length_two {op : Byte} (h : instrLength op = 2) (b1 : Byte) (rest : List Byte) :
    decode (op :: b1 :: rest) = .ok (decode3 op b1 0) rest := by
  simp only [decode, h]

theorem decode_cons_of_length_three {op : Byte} (h : instrLength op = 3) (b1 b2 : Byte) (rest : List Byte) :
    decode (op :: b1 :: b2 :: rest) = .ok (decode3 op b1 b2) rest := by
  simp only [decode, h]

theorem instrLength_cases (op : Byte) : instrLength op = 1 ∨ instrLength op = 2 ∨ instrLength op = 3 := by
  revert op
  decide

/-- Everything that a list of bytes that decodes can be. -/
theorem decode_eq_ok {bs rest : List Byte} {i : Instr} (h : decode bs = .ok i rest) :
    ∃ op b1 b2, i = decode3 op b1 b2 ∧ bs = [op, b1, b2].take (instrLength op) ++ rest := by
  obtain _ | ⟨op, tail⟩ := bs
  · cases h
  · obtain hlen | hlen | hlen := instrLength_cases op
    · rw [decode_cons_of_length_one hlen] at h
      cases h
      exact ⟨op, 0, 0, rfl, by rw [hlen]; rfl⟩
    · obtain _ | ⟨b1, tail⟩ := tail
      · simp [decode, hlen] at h
      · rw [decode_cons_of_length_two hlen] at h
        cases h
        exact ⟨op, b1, 0, rfl, by rw [hlen]; rfl⟩
    · obtain _ | ⟨b1, _ | ⟨b2, tail⟩⟩ := tail
      · simp [decode, hlen] at h
      · simp [decode, hlen] at h
      · rw [decode_cons_of_length_three hlen] at h
        cases h
        exact ⟨op, b1, b2, rfl, by rw [hlen]; rfl⟩

/-! ### The encoding of a table's entry (R83) -/

/-- The 16 by 16 table of a function of the byte. -/
def tableOf {α : Type} (f : Byte → α) : List (List α) :=
  (List.range 16).map fun hi => (List.range 16).map fun lo => f (byte (16 * hi + lo))

theorem tableEntry_tableOf {α : Type} (f : Byte → α) (dflt : α) (op : Byte) :
    tableEntry (tableOf f) dflt op = f op := by
  have hhi : op.toNat / 16 < 16 := by omega
  have hlo : op.toNat % 16 < 16 := by omega
  have hop : 16 * (op.toNat / 16) + op.toNat % 16 = op.toNat := Nat.div_add_mod ..
  simp [tableEntry, tableOf, List.getD_eq_getElem?_getD, hhi, hlo, hop, byte_toNat]

theorem tableEntry_map {α β : Type} (g : α → β) (t : List (List α)) (dflt : α) (op : Byte) :
    tableEntry (t.map (List.map g)) (g dflt) op = g (tableEntry t dflt op) := by
  have hrow : (t.map (List.map g)).getD (op.toNat / 16) [] = (t.getD (op.toNat / 16) []).map g :=
    List.getD_map (d := []) ..
  rw [tableEntry, hrow, List.getD_map]
  rfl

/-- The primary table read as bytes: at each byte but 0xCB, the bytes of R86's length from it on. -/
theorem encode_primaryTable (nn : Word) :
    (primaryTable (lo8 nn) nn).map (List.map encode) =
      tableOf fun op => if op = 0xCB#8 then [op] else [op, lo8 nn, hi8 nn].take (instrLength op) := rfl

theorem encode_cbTable : cbTable.map (List.map encode) = tableOf fun op => [0xCB#8, op] := rfl

theorem encode_decodePrimary {op : Byte} (hop : op ≠ 0xCB#8) (b1 b2 : Byte) :
    encode (decodePrimary op b1 b2) = [op, b1, b2].take (instrLength op) := by
  have htable := encode_primaryTable (cat16 b2 b1)
  rw [lo8_cat16, hi8_cat16] at htable
  rw [decodePrimary, ← tableEntry_map encode, htable, tableEntry_tableOf, if_neg hop]

theorem encode_decodeCB (op : Byte) : encode (decodeCB op) = [0xCB#8, op] := by
  rw [decodeCB, ← tableEntry_map encode, encode_cbTable, tableEntry_tableOf]

/-- The instruction at three bytes has the first of them as its bytes, as many as R86 says. -/
theorem encode_decode3 (op b1 b2 : Byte) : encode (decode3 op b1 b2) = [op, b1, b2].take (instrLength op) := by
  rw [decode3]
  split
  · next hop =>
    subst hop
    exact encode_decodeCB b1
  · next hop => exact encode_decodePrimary hop b1 b2

/-- PREFIX CB alone is one byte, and R86 gives that byte two. -/
theorem wellFormed_decode3 (op b1 b2 : Byte) : (decode3 op b1 b2).wellFormed = true := by
  have hencode := encode_decode3 op b1 b2
  unfold Instr.wellFormed
  split
  · next hprefix =>
    rw [hprefix] at hencode
    obtain hlen | hlen | hlen := instrLength_cases op <;> rw [hlen] at hencode <;> cases hencode
    cases hlen
  · rfl

/-! ### Decoding an encoding (R80, R83) -/

/-- An instruction with a 16-bit operand, whose low byte stands first (R80). -/
theorem decode_word_operand {op : Byte} {f : Word → Instr} (hlen : instrLength op = 3)
    (hentry : ∀ b1 b2, decode3 op b1 b2 = f (cat16 b2 b1)) (nn : Word) (rest : List Byte) :
    decode ([op, lo8 nn, hi8 nn] ++ rest) = .ok (f nn) rest := by
  have hdecode := decode_cons_of_length_three hlen (lo8 nn) (hi8 nn) rest
  rwa [hentry, cat16_hi8_lo8] at hdecode

theorem decode_encode (i : Instr) (rest : List Byte) (hwf : i.wellFormed = true) :
    decode (encode i ++ rest) = .ok i rest := by
  cases i
  case prefix_CB => cases hwf
  case ld_BC_d16 | ld_DE_d16 | ld_HL_d16 | ld_SP_d16 | ld_atA16_SP | ld_atA16_A | ld_A_atA16 | jp_a16 | jp_NZ_a16 |
      jp_Z_a16 | jp_NC_a16 | jp_C_a16 | call_a16 | call_NZ_a16 | call_Z_a16 | call_NC_a16 | call_C_a16 =>
    exact decode_word_operand rfl (fun _ _ => rfl) ..
  all_goals rfl

/-- The bytes past the instruction's length do not matter (R86, R100). -/
theorem decode_three_bytes (op b1 b2 : Byte) :
    decode [op, b1, b2] = .ok (decode3 op b1 b2) ([op, b1, b2].drop (instrLength op)) := by
  have hdecode := decode_encode (decode3 op b1 b2) ([op, b1, b2].drop (instrLength op)) (wellFormed_decode3 ..)
  rwa [encode_decode3, List.take_append_drop] at hdecode

/-! ### The statements -/

/-- Settles O58: at the first byte of each encoding the tables have the instruction with its operand. -/
theorem decodingUndoesEncoding : Obligations.DecodingUndoesEncoding := decode_encode

/-- Settles O59: a list that decodes begins with the bytes of its first byte's length, and those are the encoding of what
they hold. -/
theorem encodingUndoesDecoding : Obligations.EncodingUndoesDecoding := by
  intro bs rest i h
  obtain ⟨op, b1, b2, rfl, rfl⟩ := decode_eq_ok h
  exact ⟨wellFormed_decode3 op b1 b2, by rw [encode_decode3]⟩

/-- Settles O47: what three bytes hold is well formed, and its encoding is the first of them. -/
theorem fetchedBytesAlwaysDecode : Obligations.FetchedBytesAlwaysDecode := by
  intro b0 b1 b2
  have hlen : 1 ≤ instrLength b0 ∧ instrLength b0 ≤ 3 := by
    obtain h | h | h := instrLength_cases b0 <;> simp [h]
  exact ⟨_, decode_three_bytes b0 b1 b2, wellFormed_decode3 b0 b1 b2, rfl, hlen⟩

/-- Settles O60: the eleven words are closed terms that the decoder evaluates. -/
theorem writtenOutWordsDecodeRight : Obligations.WrittenOutWordsDecodeRight :=
  ⟨rfl, rfl, rfl, rfl, rfl, rfl, rfl, rfl, rfl, rfl, rfl⟩

end Sys2Proof.Machine
end

section
/-! Plain cells and the stack (20_memory.md section 4, 40_execution_engine.md R110, R111): what a plain cell is known to
hold, and the word that comes back from a stack that was pushed to. -/

namespace Sys2Proof.Machine

open Sys2Proof.Statements

/-! ### Plain cells (R59) -/

/-- A plain cell is known to hold the byte that every read of it gives. -/
theorem State.peek_of_plain {s : State} {a : Word} (h : s.isVolatile a = false) (k : ReadSlot) :
    s.peek a = some (s.memRead k a) := by
  simp [State.peek, State.memRead, h]

theorem State.memRead_memWrite {s : State} {b : Word} (hwf : s.mem.wf = true) (hplain : s.isVolatile b = false)
    (a : Word) (v : Byte) (k : ReadSlot) :
    (s.memWrite a v).memRead k b = if b = a then v else s.memRead k b := by
  apply State.memRead_of_peek
  rw [State.peek_memWrite hwf, State.peek_of_plain hplain k]
  split <;> rfl

/-- A plain cell of the frame reads as the byte listed for it. -/
theorem memRead_of_stores {s t : State} {cells : List (Word × Byte)} {a : Word} {v : Byte} (h : Stores s t cells)
    (hplain : s.isVolatile a = false) (hcell : cells.lookup a = some v) (k : ReadSlot) : t.memRead k a = v := by
  apply State.memRead_of_peek
  rw [h a, State.peek_of_plain hplain k, hcell]
  rfl

theorem State.isVolatile_of_flat {s : State} (h : s.launch.memoryOracle = .flat) (a : Word) :
    s.isVolatile a = false := by
  simp [State.isVolatile, h, MemoryOracle.covers]

/-! ### A push and a pop (R110, R111) -/

/-- Pop16 after Push16 gives the pushed word, at the wrap too. -/
theorem poppedWord_of_pushed {s t : State} {v : Word} (h : Stores s t (pushedCells s v)) (hsp : t.sp = s.sp - 2)
    (hhigh : s.isVolatile (s.sp - 1) = false) (hlow : s.isVolatile (s.sp - 2) = false) : poppedWord t = v := by
  have hnext : s.sp - 2 + 1 = s.sp - 1 := by bv_omega
  have hne : (s.sp - 2#16 == s.sp - 1#16) = false := beq_false_of_ne (by bv_omega)
  have hhi := memRead_of_stores h hhigh (v := hi8 v) (by simp [pushedCells]) .data2
  have hlo := memRead_of_stores h hlow (v := lo8 v) (by simp [pushedCells, List.lookup_cons, hne]) .data1
  rw [poppedWord, hsp, hnext, hhi, hlo, cat16_hi8_lo8]

/-- POP of a pair from a stack that holds the pair's own value leaves every pair as it was. -/
theorem exec_pop_of_own_value {p : StackPair} {t : State} (h : poppedWord t = t.stackPair p) :
    ∃ u, exec (.pop p) t = .next u ∧ u.sp = t.sp + 2 ∧ ∀ q, u.stackPair q = t.stackPair q := by
  obtain ⟨-, hBC, hDE, hHL, hAF⟩ := popReadsLowThenHigh t
  cases p
  case' BC => refine ⟨_, hBC, rfl, fun q => ?_⟩
  case' DE => refine ⟨_, hDE, rfl, fun q => ?_⟩
  case' HL => refine ⟨_, hHL, rfl, fun q => ?_⟩
  case' AF => refine ⟨_, hAF, rfl, fun q => ?_⟩
  all_goals cases q <;> simp [h, State.stackPair, State.readAF, finish, keptF, BitVec.and_assoc]

/-- PUSH leaves every pair as it was. -/
theorem exec_push (p : StackPair) {s : State} (hwf : s.mem.wf = true) :
    ∃ t, exec (.push p) s = .next t ∧ t.sp = s.sp - 2 ∧ (∀ q, t.stackPair q = s.stackPair q) ∧
      Stores s t (pushedCells s (s.stackPair p)) := by
  have hexec := exec_of_engine_flagless (exec_push_eq_engine p s) rfl (s.push16_pc (s.stackPair p))
  refine ⟨_, hexec, s.push16_sp _, fun q => ?_, stores_push16 hwf (s.stackPair p)⟩
  cases q <;> simp [microPush, State.stackPair, State.readAF, finish, keptF, BitVec.and_assoc]

/-! ### The statements -/

/-- Settles O6: what is known of each cell after the write, and a plain cell reads as what is known of it. -/
theorem plainCellReadsItsLastWrite : Obligations.PlainCellReadsItsLastWrite :=
  fun s a _ v k hwf hplain =>
    ⟨State.memRead_memWrite hwf hplain a v k, s.memWrite_frame a v, State.memWrite_wf hwf a v⟩

/-- Settles O17: the pop takes the pair's own value off the stack. -/
theorem pushThenPopRestoresThePair : Obligations.PushThenPopRestoresThePair := by
  intro p s hwf hhigh hlow
  obtain ⟨t, hpush, hsp, hpairs, hstores⟩ := exec_push p hwf
  have hown : poppedWord t = t.stackPair p := (poppedWord_of_pushed hstores hsp hhigh hlow).trans (hpairs p).symm
  obtain ⟨u, hpop, husp, hupairs⟩ := exec_pop_of_own_value hown
  have hback : s.sp - 2 + 2 = s.sp := BitVec.sub_add_cancel ..
  exact ⟨t, u, hpush, hpop, by rw [husp, hsp, hback], fun q => (hupairs q).trans (hpairs q)⟩

/-- Settles O52: the byte stands in a plain cell, and the next fetch begins there. -/
theorem storedByteIsFetchedNext : Obligations.StoredByteIsFetchedNext := by
  intro s hwf hflat hHL
  obtain ⟨t, hexec, hframe, hstores⟩ := ((storeRegisterAndImmediateAtHL s hwf).1 .A).2
  have hpc : t.pc = s.pc + 1 := congrArg State.pc hframe
  have hopcode : t.memRead .opcode t.pc = s.a := by
    rw [hpc, ← hHL]
    exact memRead_of_stores hstores (State.isVolatile_of_flat hflat _) (by simp) _
  have himm1 : t.pc + 1#16 = s.pc + 2 := by rw [hpc]; bv_omega
  have himm2 : t.pc + 2#16 = s.pc + 3 := by rw [hpc]; bv_omega
  exact ⟨t, hexec, hpc, hopcode, by rw [State.fetch, hopcode, himm1, himm2]⟩

end Sys2Proof.Machine
end

section
/-! The boundary (40_execution_engine.md R100, 60_exceptions.md section 2): what each move of the collaborator does, the
return from a dispatch, and the core's own step; and the state after reset (70_reset_and_hazards.md R340). -/

namespace Sys2Proof.Machine

open Sys2Proof.Statements

/-! ### The dispatch (R311) -/

theorem stores_dispatchInterrupt {s : State} (hwf : s.mem.wf = true) (v : Word) :
    Stores s (s.dispatchInterrupt v) (pushedCells s s.pc) :=
  stores_push16 (s := { s with ime := false, halted := false }) hwf s.pc

theorem vectorEnabled_of_not_mem {s : State} {v : Word} (h : v ∉ s.launch.intVectors) :
    s.vectorEnabled v = false := by
  simp [State.vectorEnabled, h]

theorem vectorEnabled_eq_false {s : State} {v : Word} (h : s.ime = false ∨ v ∉ s.launch.intVectors) :
    s.vectorEnabled v = false :=
  h.elim (vectorEnabled_of_ime_false · v) vectorEnabled_of_not_mem

theorem boundaryMove_vector {s : State} {v : Word} (h : s.vectorEnabled v = true) :
    boundaryMove (.vector v) s = .next (s.dispatchInterrupt v) :=
  if_pos h

theorem boundaryMove_wake {s : State} (h : s.wakeEnabled = true) : boundaryMove .wake s = .next s.wakeUp :=
  if_pos h

/-! ### The schedule's next move (R320) -/

/-- The state with the next move taken off its schedule. -/
def State.takeMove (s : State) : State := { s with schedule := s.schedule.tail }

@[simp] theorem State.takeMove_halted (s : State) : s.takeMove.halted = s.halted := rfl
@[simp] theorem State.takeMove_fault (s : State) : s.takeMove.fault = s.fault := rfl
@[simp] theorem State.takeMove_fetch (s : State) : s.takeMove.fetch = s.fetch := rfl

theorem step_eq_boundaryMove_takeMove {s : State} (h : s.fault = none) :
    step s = boundaryMove s.schedule.head s.takeMove :=
  step_eq_boundaryMove h

/-! ### The fetch (R100, R103) -/

theorem State.fetch_of_decode {s : State} {i : Instr} {rest : List Byte}
    (h : decode [s.memRead .opcode s.pc, s.memRead .imm1 (s.pc + 1), s.memRead .imm2 (s.pc + 2)] = .ok i rest) :
    s.fetch = i := by
  rw [decode_three_bytes] at h
  cases h
  rfl

/-! ### F at reset (R340) -/

theorem toNat_and_highNibble (v : Byte) : (v &&& 0xF0#8).toNat = v.toNat / 16 * 16 := by
  have hle : v &&& 0x0F#8 ≤ v := Nat.and_le_left
  have hlow : (v &&& 0x0F#8).toNat = v.toNat % 16 := lowNibble_eq_mod v
  have hhigh : v &&& 0xF0#8 = v - (v &&& 0x0F#8) := and_not_eq_sub v 0x0F#8
  rw [hhigh, BitVec.toNat_sub_of_le hle, hlow]
  omega

/-! ### The statements -/

/-- Settles O46: no move is enabled, so the core steps, and what the three bytes decode to is what it fetches. -/
theorem stepRunsTheDecodedInstruction : Obligations.StepRunsTheDecodedInstruction := by
  intro s i rest hfault hhalted hdecode hvector
  have hfetch : s.fetch = i := State.fetch_of_decode hdecode
  have hvector' (v : Word) (hv : s.schedule.head = .vector v) : s.takeMove.vectorEnabled v = false :=
    vectorEnabled_eq_false (hvector v hv)
  have hwake : s.takeMove.wakeEnabled = false := by simp [State.wakeEnabled, hhalted]
  have hrun : coreStep s.takeMove = exec i s.takeMove := by
    rw [coreStep_of_running (s := s.takeMove) hhalted, State.takeMove_fetch, hfetch]
  refine ⟨?_, fun hquiet => ?_⟩
  · rw [step_eq_boundaryMove_takeMove hfault, boundaryMove_not_enabled hvector' fun _ => hwake, hrun]
    rfl
  · rw [step_eq_coreStep hfault hquiet, coreStep_of_running hhalted, hfetch]

/-- Settles O49: the enabled Vector is the dispatch, whose frame and two stored cells are those of a push of pc. -/
theorem vectorDispatchesWhenEnabled : Obligations.VectorDispatchesWhenEnabled := by
  intro s v hwf hfault hhead
  refine ⟨fun hime hv => ?_, vectorEnabled_eq_false, rfl, rfl⟩
  have henabled : s.takeMove.vectorEnabled v = true := vectorEnabled_of_ime_true hfault hime hv
  have hstep : step s = .next (s.takeMove.dispatchInterrupt v) := by
    rw [step_eq_boundaryMove_takeMove hfault, hhead, boundaryMove_vector henabled]
  exact ⟨_, hstep, s.takeMove.dispatchInterrupt_frame v, stores_dispatchInterrupt (s := s.takeMove) hwf v⟩

/-- Settles O50: the enabled Wake clears HALTED, after which the quiet core runs what it fetches. -/
theorem wakeLeavesHaltedOnly : Obligations.WakeLeavesHaltedOnly := by
  intro s hfault hhalted hhead
  have henabled : s.takeMove.wakeEnabled = true := by simp [State.wakeEnabled, hfault, hhalted]
  have hwake : step s = .next s.takeMove.wakeUp := by
    rw [step_eq_boundaryMove_takeMove hfault, hhead, boundaryMove_wake henabled]
  have hrun (hquiet : s.takeMove.wakeUp.schedule = .quiet) :
      step s.takeMove.wakeUp = exec s.takeMove.wakeUp.fetch s.takeMove.wakeUp := by
    rw [step_eq_coreStep (s := s.takeMove.wakeUp) hfault hquiet, coreStep_of_running s.takeMove.wakeUp_halted]
  exact ⟨hwake, hrun⟩

/-- Settles O51: RETI pops the pc that the dispatch pushed. -/
theorem interruptDispatchThenRetiResumes : Obligations.InterruptDispatchThenRetiResumes := by
  intro s v hwf hhigh hlow
  obtain ⟨-, -, hreti, -⟩ := returnsPopPc .Z (s.dispatchInterrupt v)
  have hpopped : poppedWord (s.dispatchInterrupt v) = s.pc :=
    poppedWord_of_pushed (stores_dispatchInterrupt hwf v) (s.dispatchInterrupt_sp v) hhigh hlow
  have hsp : (s.dispatchInterrupt v).sp + 2 = s.sp := by
    rw [State.dispatchInterrupt_sp]
    exact BitVec.sub_add_cancel ..
  refine ⟨_, hreti, hpopped, hsp, rfl, s.dispatchInterrupt_halted v, fun r => ?_, ?_⟩
  · cases r <;> simp [finish]
  · simp [finish, keptF]

/-- Settles O4: PowerOn takes the draws with the low nibble of F cleared. -/
theorem resetGivesTheProfileValues : Obligations.ResetGivesTheProfileValues := by
  refine ⟨fun launch drawn mem0 sched => ?_, rfl⟩
  have hf := toNat_and_highNibble drawn.f
  cases hprofile : launch.resetProfile <;> simp [State.resetOf, hprofile, hf]

/-- Settles O5: every premise is a closed fact about the reset state. -/
theorem resetStateIsACleanLegalEntry : Obligations.ResetStateIsACleanLegalEntry := ⟨rfl, rfl⟩

end Sys2Proof.Machine
end

section
/-! What the 8-bit arithmetic adds up to (43_alu_8bit.md): the flags read back from F, the two modes of ADC and SBC held
against each other, INC undone by DEC, and decimal arithmetic by DAA. -/

namespace Sys2Proof.Machine

open Sys2Proof.Statements

/-! ### The flags read back from F (R26, R101) -/

theorem Effect.commit_eq_true_iff (e : Effect) (old new : Bool) :
    e.commit old new = true ↔ e = .forced1 ∨ (e = .unaffected ∧ old = true) ∨ (e = .computed ∧ new = true) := by
  cases e <;> simp [Effect.commit]

theorem Flags.ofByte_flagByte (z n h c : Bool) : Flags.ofByte (flagByte z n h c) = ⟨z, n, h, c⟩ := by
  rw [← Flags.toByte_eq_flagByte ⟨z, n, h, c⟩, Flags.ofByte_toByte]

section
variable (u : State) (z n h c : Bool) (pc : Word) (ticks : Nat)

@[simp] theorem nOf_finish : nOf (finish u (flagByte z n h c) pc ticks) = n :=
  congrArg Flags.n (Flags.ofByte_flagByte z n h c)

@[simp] theorem hOf_finish : hOf (finish u (flagByte z n h c) pc ticks) = h :=
  congrArg Flags.h (Flags.ofByte_flagByte z n h c)

@[simp] theorem cOf_finish : cOf (finish u (flagByte z n h c) pc ticks) = c :=
  congrArg Flags.c (Flags.ofByte_flagByte z n h c)

end

/-! ### A register after an instruction (R23) -/

@[simp] theorem State.reg8_finish (u : State) (f : Byte) (pc : Word) (ticks : Nat) (r : Reg8) :
    (finish u f pc ticks).reg8 r = u.reg8 r := by
  cases r <;> rfl

/-- DEC takes back the successor, at the wrap too. -/
theorem byte_pred_succ (v : Byte) : byte ((byte (v.toNat + 1)).toNat + 255) = v := by
  unfold byte
  bv_omega

/-! ### Two decimal digits (R203) -/

theorem toNat_bcd {x : Nat} (hx : x < 100) : (bcd x).toNat = x / 10 * 16 + x % 10 := by
  rw [bcd, byte, BitVec.toNat_ofNat]
  omega

/-- A number below 100 by its two digits, each in a nibble of its encoding. -/
theorem bcd_digits {x : Nat} (hx : x < 100) :
    ∃ p q, p < 10 ∧ q < 10 ∧ x = 10 * p + q ∧ (bcd x).toNat = 16 * p + q :=
  ⟨x / 10, x % 10, by omega, by omega, by omega, by rw [toNat_bcd hx, Nat.mul_comm]⟩

/-- The binary sum of two encodings, corrected where a digit or its carry says so, is the encoding of the sum. -/
theorem daa_of_add {t : State} {x y : Nat} (hx : x < 100) (hy : y < 100) (hn : nOf t = false)
    (ha : t.a = byte ((bcd x).toNat + (bcd y).toNat))
    (hh : hOf t = decide ((bcd x).toNat % 16 + (bcd y).toNat % 16 > 15))
    (hc : cOf t = decide ((bcd x).toNat + (bcd y).toNat > 255)) :
    daaResult t = bcd ((x + y) % 100) ∧ daaCarry t = decide (x + y > 99) := by
  have hsum : t.a.toNat = ((bcd x).toNat + (bcd y).toNat) % 256 := by rw [ha, byte, BitVec.toNat_ofNat]
  obtain ⟨p, q, hp, hq, hxd, hxb⟩ := bcd_digits hx
  obtain ⟨r, u, hr, hu, hyd, hyb⟩ := bcd_digits hy
  rw [hxb, hyb] at hsum hh hc
  have hones : (hOf t || decide (t.a.toNat % 16 > 9)) = decide (q + u > 9) := by
    rw [hh, hsum, ← Bool.decide_or, decide_eq_decide]
    omega
  have htens : (cOf t || decide (t.a.toNat > 0x99)) = decide (x + y > 99) := by
    rw [hc, hsum, ← Bool.decide_or, decide_eq_decide]
    omega
  refine ⟨?_, by rw [daaCarry, hn, Bool.not_false, Bool.true_and, htens]⟩
  apply BitVec.eq_of_toNat_eq
  rw [toNat_bcd (Nat.mod_lt _ (by decide)), daaResult, daaAdjust, hn, hones, htens, hsum]
  simp only [Bool.false_eq_true, if_false, decide_eq_true_eq, byte, BitVec.toNat_ofNat]
  split <;> split <;> omega

/-- The binary difference of two encodings, corrected where a digit borrowed, is the encoding of the difference. -/
theorem daa_of_sub {t : State} {x y : Nat} (hx : x < 100) (hy : y < 100) (hn : nOf t = true)
    (ha : t.a = byte ((bcd x).toNat + 256 - (bcd y).toNat))
    (hh : hOf t = below ((bcd x).toNat % 16) ((bcd y).toNat % 16)) (hc : cOf t = below (bcd x).toNat (bcd y).toNat) :
    daaResult t = bcd ((x + 100 - y) % 100) ∧ daaCarry t = decide (x < y) := by
  have hdiff : t.a.toNat = ((bcd x).toNat + 256 - (bcd y).toNat) % 256 := by rw [ha, byte, BitVec.toNat_ofNat]
  obtain ⟨p, q, hp, hq, hxd, hxb⟩ := bcd_digits hx
  obtain ⟨r, u, hr, hu, hyd, hyb⟩ := bcd_digits hy
  rw [hxb, hyb] at hdiff hh hc
  have hones : hOf t = decide (q < u) := by
    rw [hh, below, decide_eq_decide]
    omega
  have htens : cOf t = decide (x < y) := by
    rw [hc, below, decide_eq_decide]
    omega
  refine ⟨?_, by rw [daaCarry, hn, Bool.not_true, Bool.false_and, Bool.or_false, htens]⟩
  apply BitVec.eq_of_toNat_eq
  rw [toNat_bcd (Nat.mod_lt _ (by decide)), daaResult, daaAdjust, hn, hones, htens, hdiff]
  simp only [if_true, decide_eq_true_eq, byte, BitVec.toNat_ofNat]
  split <;> split <;> omega

/-! ### The two modes of ADC and SBC (R172) -/

theorem adc8_fold_flags (a b : Byte) (c : Bool) :
    (adc8 .fold a b c).2 =
      { (adc8 .carryIn a b c).2 with h := decide (a.toNat % 16 + (b.toNat + c.toNat) % 16 > 15) } := by
  simp only [adc8, adcFold, add8, lowNibble_eq_mod, Nat.add_assoc]

theorem adc8_carryIn_h (a b : Byte) (c : Bool) :
    (adc8 .carryIn a b c).2.h = decide (a.toNat % 16 + (b.toNat % 16 + c.toNat) > 15) := by
  simp only [adc8, add8, lowNibble_eq_mod, Nat.add_assoc]

theorem sbc8_fold_flags (a b : Byte) (c : Bool) :
    (sbc8 .fold a b c).2 =
      { (sbc8 .carryIn a b c).2 with h := below (a.toNat % 16) ((b.toNat + c.toNat) % 16) } := by
  simp only [sbc8, sbcFold, sub8, lowNibble_eq_mod, below, Nat.cast_add, Int.sub_sub]

theorem sbc8_carryIn_h (a b : Byte) (c : Bool) :
    (sbc8 .carryIn a b c).2.h = below (a.toNat % 16) (b.toNat % 16 + c.toNat) := by
  simp only [sbc8, sub8, lowNibble_eq_mod, below_add]

/-! ### The statements -/

/-- Settles O3: F's low nibble is 0, and each flag read back is what its effect commits. -/
theorem gateCommitsEachFlagByItsEffect : Obligations.GateCommitsEachFlagByItsEffect := by
  intro g f0 p
  have hlow : commit g f0 p &&& 0x0F#8 = 0#8 := Flags.toByte_and_low _
  rw [commit, Flags.ofByte_toByte]
  exact ⟨g.z.commit_eq_true_iff .., g.n.commit_eq_true_iff .., g.h.commit_eq_true_iff .., g.c.commit_eq_true_iff ..,
    hlow⟩

/-- Settles O22: H alone sees the carry added to the operand, and a low nibble of 15 is the only one it overflows. -/
theorem adcSbcModesDifferOnlyInHalfCarry : Obligations.AdcSbcModesDifferOnlyInHalfCarry := by
  intro a b c q hq
  have hfold : ¬(b.toNat % 16 = 15 ∧ c = true) → (b.toNat + c.toNat) % 16 = b.toNat % 16 + c.toNat := by
    cases c <;> simp; omega
  have hfull (h : b.toNat % 16 = 15 ∧ c = true) :
      (b.toNat + c.toNat) % 16 = 0 ∧ b.toNat % 16 + c.toNat = 16 := by
    obtain ⟨hb, rfl⟩ := h
    rw [Bool.toNat_true]
    omega
  simp only [List.mem_cons, List.not_mem_nil, or_false] at hq
  obtain rfl | rfl := hq
  · have hres := (adc8_fst .carryIn a b c).trans (adc8_fst .fold a b c).symm
    simp only [adc8_fold_flags, adc8_carryIn_h]
    refine ⟨hres, trivial, trivial, trivial, fun h => by rw [hfold h], fun h => ?_⟩
    obtain ⟨hfolded, hcarried⟩ := hfull h
    rw [hfolded, hcarried, decide_eq_true_eq, decide_eq_false_iff_not]
    omega
  · have hres := (sbc8_fst .carryIn a b c).trans (sbc8_fst .fold a b c).symm
    simp only [sbc8_fold_flags, sbc8_carryIn_h]
    refine ⟨hres, trivial, trivial, trivial, fun h => by rw [hfold h], fun h => ?_⟩
    obtain ⟨hfolded, hcarried⟩ := hfull h
    rw [hfolded, hcarried, below, below, decide_eq_true_eq, decide_eq_false_iff_not]
    omega

/-- Settles O27: the register's byte comes back, and both gates leave C unaffected. -/
theorem incrementThenDecrementRestores : Obligations.IncrementThenDecrementRestores := by
  intro r s
  obtain ⟨-, hinc, -⟩ := incrementAndDecrementRegister r s
  obtain ⟨-, -, hdec⟩ := incrementAndDecrementRegister r _
  refine ⟨_, _, hinc, hdec, fun q => ?_, ?_⟩
  · simp only [State.reg8_finish, State.reg8_setReg8, if_true, byte_pred_succ]
    split
    · next hq => rw [hq]
    · rfl
  · simp

/-- Settles O29: ADD and SUB leave the binary result and the flags from which DAA corrects both digits. -/
theorem decimalArithmeticIsCorrect : Obligations.DecimalArithmeticIsCorrect := by
  intro s x y hx hy ha
  have hdaa (t : State) := (decimalAdjustCorrectsTheAccumulator t).2
  have hadd := (addSetsResultAndFlags (.imm (bcd y)) s).2
  have hsub := (subtractSetsResultAndFlags (.imm (bcd y)) s).2
  rw [ha] at hadd hsub
  refine ⟨⟨_, _, hadd, hdaa _, ?_⟩, ⟨_, _, hsub, hdaa _, ?_⟩⟩ <;> rw [cOf_finish]
  · exact daa_of_add hx hy (nOf_finish ..) rfl (hOf_finish ..) (cOf_finish ..)
  · exact daa_of_sub hx hy (nOf_finish ..) rfl (hOf_finish ..) (cOf_finish ..)

end Sys2Proof.Machine
end

section
/-! What every instruction keeps (30_encoding.md R95, 10_state.md section 4, 60_exceptions.md section 1): each is run by the
descriptor that the table gives it, and its microcode is one of data, of control transfer or of the run state. -/

namespace Sys2Proof.Machine

open Sys2Proof.Statements

/-! ### What a microcode leaves alone -/

/-- No microcode writes the clock, FAULT, the launch parameters or the schedule, and one that is not taken leaves pc to the
engine. -/
theorem IsMicrocode.frame {micro : Microcode} (h : IsMicrocode micro) (s : State) :
    (micro s).state.ticks = s.ticks ∧ (micro s).state.fault = s.fault ∧ (micro s).state.launch = s.launch ∧
      (micro s).state.schedule = s.schedule ∧ ((micro s).taken = false → (micro s).state.pc = s.pc) := by
  induction h with
  | alu op => cases op <;> exact ⟨rfl, rfl, rfl, rfl, fun _ => rfl⟩
  | ldPairImm | incPair | decPair | pop => simp [microLdPairImm, microIncPair, microDecPair, microPop]
  | inc8 | dec8 | rot | res | set => simp [microInc8, microDec8, microRot, microRes, microSet]
  | ld8 | storeSP | push => simp [microLd8, microStoreSP, microPush]
  | call | rst => simp [microCall, microRst, MicroResult.branch]
  | jp | jpHL | jr | ret | reti => exact ⟨rfl, rfl, rfl, rfl, fun htaken => by cases htaken⟩
  | guarded cc _ ih =>
    rw [microIf]
    split
    · exact ih
    · exact ⟨rfl, rfl, rfl, rfl, fun _ => rfl⟩
  | _ => exact ⟨rfl, rfl, rfl, rfl, fun _ => rfl⟩

/-- Every microcode keeps memory canonical. -/
theorem IsMicrocode.wf {micro : Microcode} (h : IsMicrocode micro) {s : State} (hwf : s.mem.wf = true) :
    (micro s).state.mem.wf = true := by
  induction h with
  | alu op => cases op <;> exact hwf
  | ldPairImm | incPair | decPair | pop => simpa [microLdPairImm, microIncPair, microDecPair, microPop] using hwf
  | inc8 | dec8 | rot | res | set => exact writeTarget_wf hwf ..
  | ld8 dst src => exact Dest8.write_wf (by simpa using hwf) ..
  | storeSP => exact State.memWrite16_wf hwf ..
  | push | call | rst => exact State.push16_wf hwf _
  | guarded cc _ ih =>
    rw [microIf]
    split
    · exact ih
    · exact hwf
  | _ => exact hwf

/-! ### The microcodes by what they write -/

/-- The microcodes of data: they write registers and memory, and leave pc and the run state as they were. -/
inductive IsDataMicrocode : Microcode → Prop where
  | nop : IsDataMicrocode microNop
  | ld8 (dst : Dest8) (src : Source8) : IsDataMicrocode (microLd8 dst src)
  | ldPairImm (p : Pair) (nn : Word) : IsDataMicrocode (microLdPairImm p nn)
  | storeSP (addr : Word) : IsDataMicrocode (microStoreSP addr)
  | ldSPHL : IsDataMicrocode microLdSPHL
  | ldHLSP (e : Byte) : IsDataMicrocode (microLdHLSP e)
  | push (p : StackPair) : IsDataMicrocode (microPush p)
  | pop (p : Pair) : IsDataMicrocode (microPop p)
  | popAF : IsDataMicrocode microPopAF
  | alu (op : AluOp) (src : AluSource) : IsDataMicrocode (microAlu op src)
  | inc8 (t : Target8) : IsDataMicrocode (microInc8 t)
  | dec8 (t : Target8) : IsDataMicrocode (microDec8 t)
  | daa : IsDataMicrocode microDaa
  | cpl : IsDataMicrocode microCpl
  | scf : IsDataMicrocode microScf
  | ccf : IsDataMicrocode microCcf
  | addHL (p : Pair) : IsDataMicrocode (microAddHL p)
  | incPair (p : Pair) : IsDataMicrocode (microIncPair p)
  | decPair (p : Pair) : IsDataMicrocode (microDecPair p)
  | addSP (e : Byte) : IsDataMicrocode (microAddSP e)
  | rotA (op : RotOp) : IsDataMicrocode (microRotA op)
  | rot (op : RotOp) (t : Target8) : IsDataMicrocode (microRot op t)
  | bit (b : Index8) (t : Target8) : IsDataMicrocode (microBit b t)
  | res (b : Index8) (t : Target8) : IsDataMicrocode (microRes b t)
  | set (b : Index8) (t : Target8) : IsDataMicrocode (microSet b t)

/-- The microcodes of control transfer but RETI's: where they are taken they write pc. -/
inductive IsTransferMicrocode : Microcode → Prop where
  | jp (addr : Word) : IsTransferMicrocode (microJp addr)
  | jpHL : IsTransferMicrocode microJpHL
  | jr (e : Byte) : IsTransferMicrocode (microJr e)
  | call (addr : Word) : IsTransferMicrocode (microCall addr)
  | ret : IsTransferMicrocode microRet
  | rst (t : Index8) : IsTransferMicrocode (microRst t)
  | guarded (cc : Cond) {branch : Microcode} (h : IsTransferMicrocode branch) :
      IsTransferMicrocode (microIf cc branch)

theorem IsDataMicrocode.isMicrocode {micro : Microcode} (h : IsDataMicrocode micro) : IsMicrocode micro := by
  cases h <;> with_reducible constructor

theorem IsTransferMicrocode.isMicrocode {micro : Microcode} (h : IsTransferMicrocode micro) : IsMicrocode micro := by
  induction h with
  | guarded cc _ ih => exact .guarded cc ih
  | _ => with_reducible constructor

theorem IsDataMicrocode.notTaken {micro : Microcode} (h : IsDataMicrocode micro) (s : State) :
    (micro s).taken = false := by
  cases h with
  | alu op => cases op <;> rfl
  | _ => rfl

theorem IsDataMicrocode.runState {micro : Microcode} (h : IsDataMicrocode micro) (s : State) :
    (micro s).state.ime = s.ime ∧ (micro s).state.halted = s.halted := by
  cases h with
  | alu op => cases op <;> exact ⟨rfl, rfl⟩
  | ldPairImm | incPair | decPair | pop => simp [microLdPairImm, microIncPair, microDecPair, microPop]
  | inc8 | dec8 | rot | res | set => simp [microInc8, microDec8, microRot, microRes, microSet]
  | ld8 | storeSP | push => simp [microLd8, microStoreSP, microPush]
  | _ => exact ⟨rfl, rfl⟩

theorem IsTransferMicrocode.runState {micro : Microcode} (h : IsTransferMicrocode micro) (s : State) :
    (micro s).state.ime = s.ime ∧ (micro s).state.halted = s.halted := by
  induction h with
  | call | rst => simp [microCall, microRst, MicroResult.branch]
  | guarded cc _ ih =>
    rw [microIf]
    split
    · exact ih
    · exact ⟨rfl, rfl⟩
  | _ => exact ⟨rfl, rfl⟩

theorem isDataMicrocode_cbEntry (c : Byte) : IsDataMicrocode (cbEntry c).2 := by
  simp only [cbEntry]
  split
  · exact .rot ..
  · exact .bit ..
  · exact .res ..
  · exact .set ..

/-! ### The instructions by their microcode -/

/-- The control transfers of 46_control_flow.md. -/
inductive IsControlTransfer : Instr → Prop where
  | jpCond (cc : Cond) (addr : Word) : IsControlTransfer (.jpCond cc addr)
  | jrCond (cc : Cond) (e : Byte) : IsControlTransfer (.jrCond cc e)
  | callCond (cc : Cond) (addr : Word) : IsControlTransfer (.callCond cc addr)
  | retCond (cc : Cond) : IsControlTransfer (.retCond cc)
  | jp (addr : Word) : IsControlTransfer (.jp_a16 addr)
  | jr (e : Byte) : IsControlTransfer (.jr_r8 e)
  | call (addr : Word) : IsControlTransfer (.call_a16 addr)
  | rst (t : Index8) : IsControlTransfer (.rst t)
  | jpHL : IsControlTransfer .jp_HL
  | ret : IsControlTransfer .ret
  | reti : IsControlTransfer .reti

/-- The instruction's descriptor in the table is `d`, and it is the engine's run of `micro` by `d`. -/
structure Runs (i : Instr) (d : Descriptor) (micro : Microcode) : Prop where
  descriptor_eq : descriptor i = some d
  exec_eq (s : State) : exec i s = engine d micro s

/-- Everything that an instruction is. -/
inductive InstrCase (i : Instr) : Prop where
  | data {d : Descriptor} {micro : Microcode} (hruns : Runs i d micro) (hmicro : IsDataMicrocode micro)
  | transfer {d : Descriptor} {micro : Microcode} (hruns : Runs i d micro) (hmicro : IsTransferMicrocode micro)
      (hi : IsControlTransfer i)
  | halt {d : Descriptor} (hruns : Runs i d microHalt) (hi : i = .halt ∨ ∃ n, i = .stop n)
  | setIme {d : Descriptor} {on : Bool} (hruns : Runs i d (microSetIme on)) (hi : i = .di ∨ i = .ei)
  | reti {d : Descriptor} (hruns : Runs i d microReti) (hi : i = .reti)
  | prefixCB (hi : i = .prefix_CB)
  | invalid (hi : i ∈ Instr.invalidOpcodes.map Prod.fst)

theorem instrCase_jpCond (cc : Cond) (addr : Word) : InstrCase (.jpCond cc addr) :=
  .transfer ⟨by cases cc <;> rfl, exec_jpCond_eq_engine cc addr⟩ (.guarded cc (.jp addr)) (.jpCond cc addr)

theorem instrCase_jrCond (cc : Cond) (e : Byte) : InstrCase (.jrCond cc e) :=
  .transfer ⟨by cases cc <;> rfl, exec_jrCond_eq_engine cc e⟩ (.guarded cc (.jr e)) (.jrCond cc e)

theorem instrCase_callCond (cc : Cond) (addr : Word) : InstrCase (.callCond cc addr) :=
  .transfer ⟨by cases cc <;> rfl, exec_callCond_eq_engine cc addr⟩ (.guarded cc (.call addr)) (.callCond cc addr)

theorem instrCase_retCond (cc : Cond) : InstrCase (.retCond cc) :=
  .transfer ⟨by cases cc <;> rfl, exec_retCond_eq_engine cc⟩ (.guarded cc .ret) (.retCond cc)

theorem instrCase_rst (t : Index8) : InstrCase (.rst t) :=
  .transfer ⟨by cases t <;> rfl, exec_rst_eq_engine t⟩ (.rst t) (.rst t)

/-- Every instruction is one of these. Where it is one of data, the head of its microcode's name is the constructor that
applies. -/
theorem instrCase (i : Instr) : InstrCase i := by
  cases i
  case jp_NZ_a16 addr => exact instrCase_jpCond .NZ addr
  case jp_Z_a16 addr => exact instrCase_jpCond .Z addr
  case jp_NC_a16 addr => exact instrCase_jpCond .NC addr
  case jp_C_a16 addr => exact instrCase_jpCond .C addr
  case jr_NZ_r8 e => exact instrCase_jrCond .NZ e
  case jr_Z_r8 e => exact instrCase_jrCond .Z e
  case jr_NC_r8 e => exact instrCase_jrCond .NC e
  case jr_C_r8 e => exact instrCase_jrCond .C e
  case call_NZ_a16 addr => exact instrCase_callCond .NZ addr
  case call_Z_a16 addr => exact instrCase_callCond .Z addr
  case call_NC_a16 addr => exact instrCase_callCond .NC addr
  case call_C_a16 addr => exact instrCase_callCond .C addr
  case ret_NZ => exact instrCase_retCond .NZ
  case ret_Z => exact instrCase_retCond .Z
  case ret_NC => exact instrCase_retCond .NC
  case ret_C => exact instrCase_retCond .C
  case rst_00H => exact instrCase_rst .i0
  case rst_08H => exact instrCase_rst .i1
  case rst_10H => exact instrCase_rst .i2
  case rst_18H => exact instrCase_rst .i3
  case rst_20H => exact instrCase_rst .i4
  case rst_28H => exact instrCase_rst .i5
  case rst_30H => exact instrCase_rst .i6
  case rst_38H => exact instrCase_rst .i7
  case jp_a16 addr => exact .transfer ⟨rfl, fun _ => rfl⟩ (.jp addr) (.jp addr)
  case jr_r8 e => exact .transfer ⟨rfl, fun _ => rfl⟩ (.jr e) (.jr e)
  case call_a16 addr => exact .transfer ⟨rfl, fun _ => rfl⟩ (.call addr) (.call addr)
  case jp_HL => exact .transfer ⟨rfl, fun _ => rfl⟩ .jpHL .jpHL
  case ret => exact .transfer ⟨rfl, fun _ => rfl⟩ .ret .ret
  case reti => exact .reti ⟨rfl, fun _ => rfl⟩ rfl
  case halt => exact .halt ⟨rfl, fun _ => rfl⟩ (.inl rfl)
  case stop n => exact .halt ⟨rfl, fun _ => rfl⟩ (.inr ⟨n, rfl⟩)
  case di => exact .setIme ⟨rfl, fun _ => rfl⟩ (.inl rfl)
  case ei => exact .setIme ⟨rfl, fun _ => rfl⟩ (.inr rfl)
  case prefix_CB => exact .prefixCB rfl
  case invalid_D3 | invalid_DB | invalid_DD | invalid_E3 | invalid_E4 | invalid_EB | invalid_EC | invalid_ED |
      invalid_F4 | invalid_FC | invalid_FD => exact .invalid (by decide)
  all_goals exact .data ⟨rfl, fun _ => rfl⟩ (by with_reducible constructor)

/-! ### One instruction -/

/-- From every state an instruction is the engine's run of a microcode, or it is one of the eleven unassigned opcodes. -/
theorem exec_eq_engine_or_raise (i : Instr) (s : State) :
    (∃ d micro, IsMicrocode micro ∧ exec i s = engine d micro s) ∨
      ∃ q ∈ Instr.invalidOpcodes, q.1 = i ∧ exec i s = raiseInvalidOpcode q.2 s := by
  cases instrCase i with
  | data hruns hmicro => exact .inl ⟨_, _, hmicro.isMicrocode, hruns.exec_eq s⟩
  | transfer hruns hmicro => exact .inl ⟨_, _, hmicro.isMicrocode, hruns.exec_eq s⟩
  | halt hruns => exact .inl ⟨_, _, .halt, hruns.exec_eq s⟩
  | setIme hruns => exact .inl ⟨_, _, .setIme _, hruns.exec_eq s⟩
  | reti hruns => exact .inl ⟨_, _, .reti, hruns.exec_eq s⟩
  | prefixCB hi =>
    subst hi
    exact .inl ⟨_, _, isMicrocode_cbEntry _, rfl⟩
  | invalid hi =>
    obtain ⟨q, hq, rfl⟩ := List.mem_map.1 hi
    exact .inr ⟨q, hq, rfl, exec_invalidOpcode hq s⟩

/-! ### The invariant (10_state.md R26, 20_memory.md R51, 60_exceptions.md R304) -/

/-- Without a fault the invariant is about F and memory alone. -/
theorem State.inv_iff_of_fault_none {s : State} (hfault : s.fault = none) :
    s.inv = true ↔ s.f &&& 0x0F#8 = 0#8 ∧ s.mem.wf = true := by
  simp [State.inv, State.flagLowZero, State.faultPrecise, hfault]

theorem engine_inv {d : Descriptor} {micro : Microcode} (hmicro : IsMicrocode micro) {s t : State}
    (hfault : s.fault = none) (hwf : s.mem.wf = true) (h : engine d micro s = .next t) : t.inv = true := by
  obtain ⟨-, hkept, -⟩ := hmicro.frame s
  cases h
  refine (State.inv_iff_of_fault_none ?_).2 ⟨Flags.toByte_and_low _, hmicro.wf hwf⟩
  exact hkept.trans hfault

/-- The fault of an unassigned opcode is precise, and nothing else changes. -/
theorem raiseInvalidOpcode_inv {q : Instr × Byte} (hq : q ∈ Instr.invalidOpcodes) {s t : State}
    (hlow : s.f &&& 0x0F#8 = 0#8) (hwf : s.mem.wf = true) (h : raiseInvalidOpcode q.2 s = .next t) :
    t.inv = true := by
  cases h
  have hbyte : q.2 ∈ Instr.invalidOpcodes.map Prod.snd := List.mem_map_of_mem hq
  simp only [State.inv, State.flagLowZero, State.faultPrecise, State.raiseFault_f, State.raiseFault_mem,
    State.raiseFault_fault, State.raiseFault_pc]
  simp [hlow, hwf, hbyte]

theorem exec_inv {i : Instr} {s t : State} (hfault : s.fault = none) (hinv : s.inv = true)
    (h : exec i s = .next t) : t.inv = true := by
  obtain ⟨hlow, hwf⟩ := (State.inv_iff_of_fault_none hfault).1 hinv
  obtain ⟨d, micro, hmicro, hexec⟩ | ⟨q, hq, -, hexec⟩ := exec_eq_engine_or_raise i s
  · exact engine_inv hmicro hfault hwf (hexec.symm.trans h)
  · exact raiseInvalidOpcode_inv hq hlow hwf (hexec.symm.trans h)

theorem coreStep_inv {s t : State} (hfault : s.fault = none) (hinv : s.inv = true) (h : coreStep s = .next t) :
    t.inv = true := by
  obtain ⟨-, rfl⟩ | ⟨-, hexec⟩ := coreStep_cases h
  · exact hinv
  · exact exec_inv hfault hinv hexec

theorem dispatchInterrupt_inv {s : State} (hfault : s.fault = none) (hinv : s.inv = true) (v : Word) :
    (s.dispatchInterrupt v).inv = true := by
  obtain ⟨hlow, hwf⟩ := (State.inv_iff_of_fault_none hfault).1 hinv
  rw [State.inv_iff_of_fault_none (by simpa using hfault), State.dispatchInterrupt_f]
  exact ⟨hlow, State.dispatchInterrupt_wf hwf v⟩

/-! ### What one instruction leaves (R95, R101, R105, R107) -/

/-- F, ticks and pc after an instruction, by its descriptor and its microcode's flags and outcome. -/
theorem Runs.follows {i : Instr} {d : Descriptor} {micro : Microcode} (hruns : Runs i d micro)
    (hmicro : IsMicrocode micro) {s t : State} (h : exec i s = .next t) :
    t.f = commit d.gate (Flags.ofByte s.f) (micro s).flags ∧
      t.ticks = s.ticks + cycleCost s.launch d.row d.cost (micro s).taken ∧
      ((micro s).taken = false → t.pc = s.pc + BitVec.ofNat 16 d.length) := by
  obtain ⟨hticks, -, -, -, hpc⟩ := hmicro.frame s
  rw [hruns.exec_eq s] at h
  cases h
  refine ⟨rfl, congrArg (· + _) hticks, fun htaken => ?_⟩
  rw [if_neg (by simp [htaken]), hpc htaken]

theorem descriptor_invalidOpcodes : ∀ i ∈ Instr.invalidOpcodes.map Prod.fst, descriptor i = none := by
  decide

/-- An instruction that the table lists is run by its descriptor there, and is taken only if it is a control transfer. -/
theorem exists_runs_of_descriptor {i : Instr} {d : Descriptor} (h : descriptor i = some d) :
    ∃ micro, Runs i d micro ∧ IsMicrocode micro ∧ ∀ s, (micro s).taken = true → IsControlTransfer i := by
  have hunique {d' : Descriptor} {micro : Microcode} (hruns : Runs i d' micro) : Runs i d micro := by
    cases h.symm.trans hruns.descriptor_eq
    exact hruns
  cases instrCase i with
  | data hruns hmicro =>
    exact ⟨_, hunique hruns, hmicro.isMicrocode, fun s htaken => by simp [hmicro.notTaken s] at htaken⟩
  | transfer hruns hmicro hi => exact ⟨_, hunique hruns, hmicro.isMicrocode, fun _ _ => hi⟩
  | halt hruns => exact ⟨_, hunique hruns, .halt, fun _ htaken => by cases htaken⟩
  | setIme hruns => exact ⟨_, hunique hruns, .setIme _, fun _ htaken => by cases htaken⟩
  | reti hruns hi => exact ⟨_, hunique hruns, .reti, fun _ _ => hi ▸ .reti⟩
  | prefixCB hi =>
    subst hi
    cases h
  | invalid hi =>
    rw [descriptor_invalidOpcodes i hi] at h
    cases h

/-- A control transfer by its family. -/
theorem IsControlTransfer.family {i : Instr} (h : IsControlTransfer i) :
    (∃ cc a, i = .jpCond cc a) ∨ (∃ cc e, i = .jrCond cc e) ∨ (∃ cc a, i = .callCond cc a) ∨
      (∃ cc, i = .retCond cc) ∨ (∃ a, i = .jp_a16 a) ∨ (∃ e, i = .jr_r8 e) ∨ (∃ a, i = .call_a16 a) ∨
      (∃ t, i = .rst t) ∨ i = .jp_HL ∨ i = .ret ∨ i = .reti := by
  cases h <;> simp

/-- An instruction changes neither the launch parameters nor the schedule. -/
theorem exec_launch_schedule {i : Instr} {s t : State} (h : exec i s = .next t) :
    t.launch = s.launch ∧ t.schedule = s.schedule := by
  obtain ⟨d, micro, hmicro, hexec⟩ | ⟨q, -, -, hexec⟩ := exec_eq_engine_or_raise i s <;> rw [hexec] at h <;> cases h
  · obtain ⟨-, -, hlaunch, hschedule, -⟩ := hmicro.frame s
    exact ⟨hlaunch, hschedule⟩
  · exact ⟨rfl, rfl⟩

theorem engine_keeps_runState {d : Descriptor} {micro : Microcode} {s t : State}
    (hkept : (micro s).state.ime = s.ime ∧ (micro s).state.halted = s.halted) (h : engine d micro s = .next t) :
    t.ime = s.ime ∧ t.halted = s.halted := by
  cases h
  exact hkept

/-- Everything that an instruction can do to IME and HALTED. -/
theorem exec_runState {i : Instr} {s t : State} (h : exec i s = .next t) :
    (t.ime = s.ime ∨ i = .di ∨ i = .ei ∨ i = .reti) ∧
      (t.halted = s.halted ∨ ((i = .halt ∨ ∃ n, i = .stop n) ∧ t.halted = true)) := by
  cases instrCase i with
  | data hruns hmicro =>
    obtain ⟨hime, hhalted⟩ := engine_keeps_runState (hmicro.runState s) ((hruns.exec_eq s).symm.trans h)
    exact ⟨.inl hime, .inl hhalted⟩
  | transfer hruns hmicro =>
    obtain ⟨hime, hhalted⟩ := engine_keeps_runState (hmicro.runState s) ((hruns.exec_eq s).symm.trans h)
    exact ⟨.inl hime, .inl hhalted⟩
  | prefixCB hi =>
    subst hi
    obtain ⟨hime, hhalted⟩ := engine_keeps_runState ((isDataMicrocode_cbEntry _).runState s) h
    exact ⟨.inl hime, .inl hhalted⟩
  | halt hruns hi =>
    cases (hruns.exec_eq s).symm.trans h
    exact ⟨.inl rfl, .inr ⟨hi, rfl⟩⟩
  | setIme hruns hi =>
    cases (hruns.exec_eq s).symm.trans h
    exact ⟨.inr (hi.imp_right .inl), .inl rfl⟩
  | reti hruns hi =>
    cases (hruns.exec_eq s).symm.trans h
    exact ⟨.inr (.inr (.inr hi)), .inl rfl⟩
  | invalid hi =>
    obtain ⟨q, hq, rfl⟩ := List.mem_map.1 hi
    cases (exec_invalidOpcode hq s).symm.trans h
    exact ⟨.inl rfl, .inl rfl⟩

/-! ### The statements -/

/-- Settles O56: neither a move of the collaborator nor the core's own step leaves the invariant. -/
theorem everyStepKeepsTheInvariant : Obligations.EveryStepKeepsTheInvariant := by
  intro s t hinv hstep
  obtain ⟨hfault, u, hu, hmove⟩ := step_cases hstep
  have hufault : u.fault = none := by rw [hu]; exact hfault
  have huinv : u.inv = true := by rw [hu]; exact hinv
  obtain hcore | ⟨v, -, -, rfl⟩ | ⟨-, -, rfl⟩ := hmove
  · exact coreStep_inv hufault huinv hcore
  · exact dispatchInterrupt_inv hufault huinv v
  · exact huinv

/-- Settles O53: no microcode writes FAULT. -/
theorem everyInstructionCompletes : Obligations.EveryInstructionCompletes := by
  intro i s
  obtain ⟨d, micro, hmicro, hexec⟩ | ⟨q, hq, hi, hexec⟩ := exec_eq_engine_or_raise i s
  · obtain ⟨-, hkept, -⟩ := hmicro.frame s
    exact ⟨_, hexec, .inl hkept⟩
  · exact ⟨_, hexec, .inr ⟨q, hq, hi, rfl⟩⟩

/-- Settles O55: every microcode but those of HALT, DI, EI and RETI leaves the run state alone. -/
theorem onlyInterruptControlChangesImeAndHalted : Obligations.OnlyInterruptControlChangesImeAndHalted := by
  intro i s t h
  obtain ⟨hime, hhalted⟩ := exec_runState h
  exact ⟨hime.resolve_left, hhalted.resolve_left, exec_launch_schedule h⟩

/-- Settles O54: the table's descriptor is the one that the engine runs the instruction by, and only a control transfer's
microcode is taken. -/
theorem everyInstructionFollowsItsDescriptor : Obligations.EveryInstructionFollowsItsDescriptor := by
  intro i d s t hd h
  obtain ⟨micro, hruns, hmicro, htransfer⟩ := exists_runs_of_descriptor hd
  obtain ⟨hf, hticks, hpc⟩ := hruns.follows hmicro h
  exact ⟨_, _, hf, hticks, hpc, fun htaken => (htransfer s htaken).family⟩

end Sys2Proof.Machine
end
